-- ==== Sys2Proof/Word.lean ====
section
/-! DEFINITION. The value types of the core (00_scope.md rule R10, 10_state.md rules R20, R24, R32, R38).
Every value is unsigned and arithmetic on it wraps, which is what `BitVec` does (00_scope.md rule R9). -/

namespace Sys2Proof

/-- A Byte: 8 bits, every result taken mod 256 (R10). General registers, timers and memory cells hold one (R11). -/
abbrev Byte := BitVec 8

/-- An Address: 12 bits, every result taken mod 4096 (R10). -/
abbrev Addr := BitVec 12

/-- A Nibble: 4 bits, sprite heights and key identifiers (R10). -/
abbrev Nibble := BitVec 4

/-- An instruction word: 16 bits (30_encoding.md rule R70). -/
abbrev Word := BitVec 16

/-- One packed scan line of the frame buffer, bit 63 the leftmost pixel (10_state.md rule R38). -/
abbrev Scanline := BitVec 64

/-- The identity of one of the sixteen general registers V0 to VF; no other register number exists (R20). -/
abbrev Reg := Fin 16

/-- VF, the register that doubles as the carry, borrow and collision flag (10_state.md rule R21). -/
abbrev regVF : Reg := 15

end Sys2Proof
end

