-- ==== Sys2Proof/Syntax.lean ====
section
/-! DEFINITION. The instruction set as syntax: one constructor per row of spec/opcode_table.json (30_encoding.md rule
R75), carrying the operands its format gives it (rule R73). -/

namespace Sys2Proof

/-- The thirty-five instructions (R75). Register operands are identities, not raw numbers (10_state.md rule R20). -/
inductive Instr where
  /-- 00E0 `CLS` (44_draw.md rule R166). -/
  | cls
  /-- 00EE `RET` (43_control_transfer.md rule R152). -/
  | ret
  /-- 0NNN `SYS nnn`, any nnn but 0E0 and 0EE (R151). -/
  | sys (nnn : Addr)
  /-- 1NNN `JP nnn` (R153). -/
  | jp (nnn : Addr)
  /-- 2NNN `CALL nnn` (R154). -/
  | call (nnn : Addr)
  /-- 3XNN `SE Vx, nn` (R155). -/
  | seB (x : Reg) (nn : Byte)
  /-- 4XNN `SNE Vx, nn` (R156). -/
  | sneB (x : Reg) (nn : Byte)
  /-- 5XY_ `SE Vx, Vy` (R157); the bottom nibble is not examined and not kept (R76). -/
  | seR (x y : Reg)
  /-- 6XNN `LD Vx, nn` (41_register_alu.md rule R120). -/
  | ldB (x : Reg) (nn : Byte)
  /-- 7XNN `ADD Vx, nn` (R121). -/
  | addB (x : Reg) (nn : Byte)
  /-- 8XY0 `LD Vx, Vy` (R122). -/
  | ldR (x y : Reg)
  /-- 8XY1 `OR Vx, Vy` (R123). -/
  | orR (x y : Reg)
  /-- 8XY2 `AND Vx, Vy` (R124). -/
  | andR (x y : Reg)
  /-- 8XY3 `XOR Vx, Vy` (R125). -/
  | xorR (x y : Reg)
  /-- 8XY4 `ADD Vx, Vy` (R126). -/
  | addR (x y : Reg)
  /-- 8XY5 `SUB Vx, Vy` (R127). -/
  | sub (x y : Reg)
  /-- 8XY6 `SHR Vx` (R128); y is decoded, kept and ignored (R77). -/
  | shr (x y : Reg)
  /-- 8XY7 `SUBN Vx, Vy` (R129). -/
  | subn (x y : Reg)
  /-- 8XYE `SHL Vx` (R130); y is decoded, kept and ignored (R77). -/
  | shl (x y : Reg)
  /-- 9XY_ `SNE Vx, Vy` (43_control_transfer.md rule R158); the bottom nibble is not examined and not kept (R76). -/
  | sneR (x y : Reg)
  /-- ANNN `LD I, nnn` (42_memory_index.md rule R140). -/
  | ldI (nnn : Addr)
  /-- BNNN `JP V0, nnn` (43_control_transfer.md rule R159). -/
  | jpV0 (nnn : Addr)
  /-- CXNN `RND Vx, nn` (41_register_alu.md rule R131). -/
  | rnd (x : Reg) (nn : Byte)
  /-- DXYN `DRW Vx, Vy, n` (44_draw.md rule R169). -/
  | drw (x y : Reg) (n : Nibble)
  /-- EX9E `SKP Vx` (45_timers_keyboard.md rule R178). -/
  | skp (x : Reg)
  /-- EXA1 `SKNP Vx` (R179). -/
  | sknp (x : Reg)
  /-- FX07 `LD Vx, DT` (R175). -/
  | ldVDt (x : Reg)
  /-- FX0A `LD Vx, K` (R180). -/
  | ldK (x : Reg)
  /-- FX15 `LD DT, Vx` (R176). -/
  | ldDt (x : Reg)
  /-- FX18 `LD ST, Vx` (R177). -/
  | ldSt (x : Reg)
  /-- FX1E `ADD I, Vx` (42_memory_index.md rule R141). -/
  | addI (x : Reg)
  /-- FX29 `LD F, Vx` (R142). -/
  | ldF (x : Reg)
  /-- FX33 `LD B, Vx` (R143). -/
  | ldBcd (x : Reg)
  /-- FX55 `LD [I], Vx` (R145). -/
  | stRegs (x : Reg)
  /-- FX65 `LD Vx, [I]` (R146). -/
  | ldRegs (x : Reg)
deriving DecidableEq, Repr

end Sys2Proof
end

