-- ==== Sys2Proof/WellFormed.lean ====
section
/-! DEFINITION. Which instruction terms some word of the hardware stands for. The operand types leave two checks: the
words 0x00E0 and 0x00EE are CLS and RET, never SYS (30_encoding.md rules R74, R75). -/

namespace Sys2Proof

/-- `true` when some word decodes to the term: every term but SYS of the two full-word literals (R74, R79). -/
def Instr.wellFormed : Instr → Bool
  | .sys nnn => nnn != 0x0E0#12 && nnn != 0x0EE#12
  | .cls | .ret | .jp _ | .call _ | .seB _ _ | .sneB _ _ | .seR _ _ | .ldB _ _ | .addB _ _ | .ldR _ _ | .orR _ _
  | .andR _ _ | .xorR _ _ | .addR _ _ | .sub _ _ | .shr _ _ | .subn _ _ | .shl _ _ | .sneR _ _ | .ldI _ | .jpV0 _
  | .rnd _ _ | .drw _ _ _ | .skp _ | .sknp _ | .ldVDt _ | .ldK _ | .ldDt _ | .ldSt _ | .addI _ | .ldF _ | .ldBcd _
  | .stRegs _ | .ldRegs _ => true

end Sys2Proof
end

