-- ==== Sys2Proof/Decode.lean ====
section
/-! DEFINITION. The decoder (30_encoding.md rules R70 to R80), the encoder written from the same tables (rule R82), and
the assembly spelling (rule R81). -/

namespace Sys2Proof

/-- What the decoder answers: an instruction, or the `Invalid` variant carrying the raw word, which is "a data value,
not a thrown error" (R71). -/
inductive Decoded where
  | instr (i : Instr)
  | invalid (w : Word)
deriving DecidableEq, Repr

/-! ## Fields of a word (rule R72) -/

/-- `fam`, bits 15:12: the family selector. -/
def fieldFam (w : Word) : BitVec 4 := w.extractLsb' 12 4

/-- `x`, bits 11:8: the first register operand. -/
def fieldX (w : Word) : Reg := (w.extractLsb' 8 4).toFin

/-- `y`, bits 7:4: the second register operand. -/
def fieldY (w : Word) : Reg := (w.extractLsb' 4 4).toFin

/-- `n`, bits 3:0: the nibble literal, or the sub-opcode of family 8. -/
def fieldN (w : Word) : Nibble := w.extractLsb' 0 4

/-- `nn`, bits 7:0: the byte literal, or the sub-opcode of families E and F. -/
def fieldNN (w : Word) : Byte := w.extractLsb' 0 8

/-- `nnn`, bits 11:0: the address literal. -/
def fieldNNN (w : Word) : Addr := w.extractLsb' 0 12

/-! ## The decoding algorithm (rule R74) -/

/-- Family 8: the bottom nibble selects; seven of its values are Invalid (R74, R78). -/
def decodeFamily8 (w : Word) : Decoded :=
  match fieldN w with
  | 0x0#4 => .instr (.ldR (fieldX w) (fieldY w))
  | 0x1#4 => .instr (.orR (fieldX w) (fieldY w))
  | 0x2#4 => .instr (.andR (fieldX w) (fieldY w))
  | 0x3#4 => .instr (.xorR (fieldX w) (fieldY w))
  | 0x4#4 => .instr (.addR (fieldX w) (fieldY w))
  | 0x5#4 => .instr (.sub (fieldX w) (fieldY w))
  | 0x6#4 => .instr (.shr (fieldX w) (fieldY w))
  | 0x7#4 => .instr (.subn (fieldX w) (fieldY w))
  | 0xE#4 => .instr (.shl (fieldX w) (fieldY w))
  | _ => .invalid w

/-- Family E: the bottom byte selects (R74, R78). -/
def decodeFamilyE (w : Word) : Decoded :=
  match fieldNN w with
  | 0x9E#8 => .instr (.skp (fieldX w))
  | 0xA1#8 => .instr (.sknp (fieldX w))
  | _ => .invalid w

/-- Family F: the bottom byte selects (R74, R78). -/
def decodeFamilyF (w : Word) : Decoded :=
  match fieldNN w with
  | 0x07#8 => .instr (.ldVDt (fieldX w))
  | 0x0A#8 => .instr (.ldK (fieldX w))
  | 0x15#8 => .instr (.ldDt (fieldX w))
  | 0x18#8 => .instr (.ldSt (fieldX w))
  | 0x1E#8 => .instr (.addI (fieldX w))
  | 0x29#8 => .instr (.ldF (fieldX w))
  | 0x33#8 => .instr (.ldBcd (fieldX w))
  | 0x55#8 => .instr (.stRegs (fieldX w))
  | 0x65#8 => .instr (.ldRegs (fieldX w))
  | _ => .invalid w

/-- The family switch on the top nibble; all sixteen values are families, the last arm being 0xF (R71, R74). -/
def decodeFamily (w : Word) : Decoded :=
  match fieldFam w with
  | 0x0#4 => .instr (.sys (fieldNNN w))
  | 0x1#4 => .instr (.jp (fieldNNN w))
  | 0x2#4 => .instr (.call (fieldNNN w))
  | 0x3#4 => .instr (.seB (fieldX w) (fieldNN w))
  | 0x4#4 => .instr (.sneB (fieldX w) (fieldNN w))
  | 0x5#4 => .instr (.seR (fieldX w) (fieldY w))
  | 0x6#4 => .instr (.ldB (fieldX w) (fieldNN w))
  | 0x7#4 => .instr (.addB (fieldX w) (fieldNN w))
  | 0x8#4 => decodeFamily8 w
  | 0x9#4 => .instr (.sneR (fieldX w) (fieldY w))
  | 0xA#4 => .instr (.ldI (fieldNNN w))
  | 0xB#4 => .instr (.jpV0 (fieldNNN w))
  | 0xC#4 => .instr (.rnd (fieldX w) (fieldNN w))
  | 0xD#4 => .instr (.drw (fieldX w) (fieldY w) (fieldN w))
  | 0xE#4 => decodeFamilyE w
  | _ => decodeFamilyF w

/-- The decoder: the two full-word literals first, then the family switch (R74). Total, and a function of the word
alone (R71). -/
def decode (w : Word) : Decoded :=
  if w = 0x00E0#16 then .instr .cls
  else if w = 0x00EE#16 then .instr .ret
  else decodeFamily w

/-- The word made of two consecutive memory bytes, the one at the lower address in bits 15:8 (20_memory.md rule R54). -/
def wordOfBytes (hi lo : Byte) : Word := hi ++ lo

/-- Decoding from memory bytes: two bytes give one instruction and the rest is handed back (R70); fewer than two bytes
are no instruction, which a fetch never meets. -/
def decodeBytes : List Byte → Option (Decoded × List Byte)
  | hi :: lo :: rest => some (decode (wordOfBytes hi lo), rest)
  | _ => none

/-! ## The encoder (rules R72, R73, R82) -/

/-- A register number as the 4-bit field that names it (R72). -/
def regBits (r : Reg) : BitVec 4 := BitVec.ofFin r

/-- Format A: `fam << 12 | nnn`. -/
def wordA (fam : BitVec 4) (nnn : Addr) : Word := fam ++ nnn

/-- Format XB: `fam << 12 | x << 8 | nn`. -/
def wordXB (fam : BitVec 4) (x : Reg) (nn : Byte) : Word := fam ++ regBits x ++ nn

/-- Formats XY and XYN: `fam << 12 | x << 8 | y << 4 | s`. -/
def wordXYN (fam : BitVec 4) (x y : Reg) (s : Nibble) : Word := fam ++ regBits x ++ regBits y ++ s

/-- The word that stands for a term, every field of the term in its place (R72, R73, R75): the other direction of the
decoder. Families 5 and 9 take the bottom nibble 0 (R76); the shifts put back the y that the decoder kept (R77), which
the assembler does not (`assemble`). -/
def encode : Instr → Word
  | .cls => 0x00E0#16
  | .ret => 0x00EE#16
  | .sys nnn => wordA 0x0#4 nnn
  | .jp nnn => wordA 0x1#4 nnn
  | .call nnn => wordA 0x2#4 nnn
  | .seB x nn => wordXB 0x3#4 x nn
  | .sneB x nn => wordXB 0x4#4 x nn
  | .seR x y => wordXYN 0x5#4 x y 0x0#4
  | .ldB x nn => wordXB 0x6#4 x nn
  | .addB x nn => wordXB 0x7#4 x nn
  | .ldR x y => wordXYN 0x8#4 x y 0x0#4
  | .orR x y => wordXYN 0x8#4 x y 0x1#4
  | .andR x y => wordXYN 0x8#4 x y 0x2#4
  | .xorR x y => wordXYN 0x8#4 x y 0x3#4
  | .addR x y => wordXYN 0x8#4 x y 0x4#4
  | .sub x y => wordXYN 0x8#4 x y 0x5#4
  | .shr x y => wordXYN 0x8#4 x y 0x6#4
  | .subn x y => wordXYN 0x8#4 x y 0x7#4
  | .shl x y => wordXYN 0x8#4 x y 0xE#4
  | .sneR x y => wordXYN 0x9#4 x y 0x0#4
  | .ldI nnn => wordA 0xA#4 nnn
  | .jpV0 nnn => wordA 0xB#4 nnn
  | .rnd x nn => wordXB 0xC#4 x nn
  | .drw x y n => wordXYN 0xD#4 x y n
  | .skp x => wordXB 0xE#4 x 0x9E#8
  | .sknp x => wordXB 0xE#4 x 0xA1#8
  | .ldVDt x => wordXB 0xF#4 x 0x07#8
  | .ldK x => wordXB 0xF#4 x 0x0A#8
  | .ldDt x => wordXB 0xF#4 x 0x15#8
  | .ldSt x => wordXB 0xF#4 x 0x18#8
  | .addI x => wordXB 0xF#4 x 0x1E#8
  | .ldF x => wordXB 0xF#4 x 0x29#8
  | .ldBcd x => wordXB 0xF#4 x 0x33#8
  | .stRegs x => wordXB 0xF#4 x 0x55#8
  | .ldRegs x => wordXB 0xF#4 x 0x65#8

/-- The high byte of a word, stored at the lower address (20_memory.md rule R54). -/
def highByte (w : Word) : Byte := w.extractLsb' 8 8

/-- The low byte of a word, stored at the higher address (20_memory.md rule R54). -/
def lowByte (w : Word) : Byte := w.extractLsb' 0 8

/-- A word's two bytes as memory holds them, the high byte first (R82, 20_memory.md rule R54). -/
def wordBytes (w : Word) : List Byte := [highByte w, lowByte w]

/-- The two bytes of `encode i` as memory holds them. -/
def encodeBytes (i : Instr) : List Byte := wordBytes (encode i)

/-! ## The assembler's word (rules R76, R77, R82) -/

/-- The canonical term of an instruction's assembly: y = 0 for `SHR Vx` and `SHL Vx`, which name no y (R77, D10). -/
def Instr.canonical : Instr → Instr
  | .shr x _ => .shr x 0
  | .shl x _ => .shl x 0
  | .cls => .cls
  | .ret => .ret
  | .sys nnn => .sys nnn
  | .jp nnn => .jp nnn
  | .call nnn => .call nnn
  | .seB x nn => .seB x nn
  | .sneB x nn => .sneB x nn
  | .seR x y => .seR x y
  | .ldB x nn => .ldB x nn
  | .addB x nn => .addB x nn
  | .ldR x y => .ldR x y
  | .orR x y => .orR x y
  | .andR x y => .andR x y
  | .xorR x y => .xorR x y
  | .addR x y => .addR x y
  | .sub x y => .sub x y
  | .subn x y => .subn x y
  | .sneR x y => .sneR x y
  | .ldI nnn => .ldI nnn
  | .jpV0 nnn => .jpV0 nnn
  | .rnd x nn => .rnd x nn
  | .drw x y n => .drw x y n
  | .skp x => .skp x
  | .sknp x => .sknp x
  | .ldVDt x => .ldVDt x
  | .ldK x => .ldK x
  | .ldDt x => .ldDt x
  | .ldSt x => .ldSt x
  | .addI x => .addI x
  | .ldF x => .ldF x
  | .ldBcd x => .ldBcd x
  | .stRegs x => .stRegs x
  | .ldRegs x => .ldRegs x

/-- The word an instruction assembles to, its canonical encoding (R82): bottom nibble 0 in families 5 and 9 (R76), y = 0
in the shifts (R77). -/
def assemble (i : Instr) : Word := encode i.canonical

/-- The two bytes an instruction assembles to (R82). -/
def assembleBytes (i : Instr) : List Byte := wordBytes (assemble i)

/-! ## Table words -/

/-- The instruction the decoder reads from one whose bits are `w`, numbered as spec/opcode_table.json numbers them: one
16-bit word (R70), every bit above `nbits` zero. -/
def tableWord (nbits w : Nat) : Word := BitVec.ofNat 16 (w % 2 ^ nbits)

/-- The decoder over a table word laid out as two bytes in memory order; `none` where the word is Invalid. -/
def decodeTableWord (nbits w : Nat) : Option Instr :=
  match decodeBytes (wordBytes (tableWord nbits w)) with
  | some (.instr i, _) => some i
  | some (.invalid _, _) => none
  | none => none

/-! ## Assembly spelling (rule R81) -/

/-- One hexadecimal digit. -/
def hexDigit (n : Nibble) : String := String.ofList ["0123456789ABCDEF".toList.getD n.toNat '0']

/-- A register in assembly, `V0` to `VF` (R81). -/
def asmReg (r : Reg) : String := "V" ++ hexDigit (regBits r)

/-- A byte literal in hexadecimal with `0x` (R81). -/
def asmByte (b : Byte) : String := "0x" ++ hexDigit (b.extractLsb' 4 4) ++ hexDigit (b.extractLsb' 0 4)

/-- An address literal in hexadecimal with `0x` (R81). -/
def asmAddr (a : Addr) : String :=
  "0x" ++ hexDigit (a.extractLsb' 8 4) ++ hexDigit (a.extractLsb' 4 4) ++ hexDigit (a.extractLsb' 0 4)

/-- The one assembly spelling of an instruction; the shifts print the same for every y (R75, R77, R81). -/
def Instr.asm : Instr → String
  | .cls => "CLS"
  | .ret => "RET"
  | .sys nnn => "SYS " ++ asmAddr nnn
  | .jp nnn => "JP " ++ asmAddr nnn
  | .call nnn => "CALL " ++ asmAddr nnn
  | .seB x nn => "SE " ++ asmReg x ++ ", " ++ asmByte nn
  | .sneB x nn => "SNE " ++ asmReg x ++ ", " ++ asmByte nn
  | .seR x y => "SE " ++ asmReg x ++ ", " ++ asmReg y
  | .ldB x nn => "LD " ++ asmReg x ++ ", " ++ asmByte nn
  | .addB x nn => "ADD " ++ asmReg x ++ ", " ++ asmByte nn
  | .ldR x y => "LD " ++ asmReg x ++ ", " ++ asmReg y
  | .orR x y => "OR " ++ asmReg x ++ ", " ++ asmReg y
  | .andR x y => "AND " ++ asmReg x ++ ", " ++ asmReg y
  | .xorR x y => "XOR " ++ asmReg x ++ ", " ++ asmReg y
  | .addR x y => "ADD " ++ asmReg x ++ ", " ++ asmReg y
  | .sub x y => "SUB " ++ asmReg x ++ ", " ++ asmReg y
  | .shr x _ => "SHR " ++ asmReg x
  | .subn x y => "SUBN " ++ asmReg x ++ ", " ++ asmReg y
  | .shl x _ => "SHL " ++ asmReg x
  | .sneR x y => "SNE " ++ asmReg x ++ ", " ++ asmReg y
  | .ldI nnn => "LD I, " ++ asmAddr nnn
  | .jpV0 nnn => "JP V0, " ++ asmAddr nnn
  | .rnd x nn => "RND " ++ asmReg x ++ ", " ++ asmByte nn
  | .drw x y n => "DRW " ++ asmReg x ++ ", " ++ asmReg y ++ ", 0x" ++ hexDigit n
  | .skp x => "SKP " ++ asmReg x
  | .sknp x => "SKNP " ++ asmReg x
  | .ldVDt x => "LD " ++ asmReg x ++ ", DT"
  | .ldK x => "LD " ++ asmReg x ++ ", K"
  | .ldDt x => "LD DT, " ++ asmReg x
  | .ldSt x => "LD ST, " ++ asmReg x
  | .addI x => "ADD I, " ++ asmReg x
  | .ldF x => "LD F, " ++ asmReg x
  | .ldBcd x => "LD B, " ++ asmReg x
  | .stRegs x => "LD [I], " ++ asmReg x
  | .ldRegs x => "LD " ++ asmReg x ++ ", [I]"

end Sys2Proof
end

