-- ==== Sys2Proof/Config.lean ====
section
/-! DEFINITION. What is fixed for the life of the machine (00_scope.md rule R5, 10_state.md rule R42) and the one free
value, the random byte (41_register_alu.md rule R132).

The widths and counts `XLEN_V` 8, `NREGS` 16, `I_WIDTH` 16, `ADDR_BITS` 12, `STACK_DEPTH` 16, `COLS` 64, `ROWS` 32 are
the types of Word.lean and of State. The policies that R5 fixes for this hardware are each one definition:
`TIMER_POLICY` is `Machine.cycle` with `Machine.State.tick` (R90, R91, D6), `SUB_FLAG_POLICY` is `Machine.State.setSubFlag`
(R127, D7), `INVALID_POLICY` is `Machine.State.reportInvalid` (R194, D16), `WAIT_KEY_POLICY` is
`Machine.State.waitCycle` (R181, D18), and `RNG` is `Config.randomByte` (R132, D22). -/

namespace Sys2Proof

/-- `MEM_SIZE`: bytes of memory (R5). -/
@[simp] abbrev Config.memSize : Nat := 4096

/-- `ENTRY`: the program counter after reset and the load address (R5, D4). -/
@[simp] abbrev Config.entry : Addr := 0x200#12

/-- `GLYPH_BYTES`: bytes per font glyph (R5, R37). -/
@[simp] abbrev Config.glyphBytes : Nat := 5

/-- The conventional bytes of the font, glyph 0 first: the default that 10_state.md rule R37 gives for the OPEN
parameter `FONT`. PRESUMED (G2, log entry 4); unsafe for a claim that names these bytes. -/
def Config.defaultFont : Vector Byte 80 :=
  #v[0xF0#8, 0x90#8, 0x90#8, 0x90#8, 0xF0#8,
     0x20#8, 0x60#8, 0x20#8, 0x20#8, 0x70#8,
     0xF0#8, 0x10#8, 0xF0#8, 0x80#8, 0xF0#8,
     0xF0#8, 0x10#8, 0xF0#8, 0x10#8, 0xF0#8,
     0x90#8, 0x90#8, 0xF0#8, 0x10#8, 0x10#8,
     0xF0#8, 0x80#8, 0xF0#8, 0x10#8, 0xF0#8,
     0xF0#8, 0x80#8, 0xF0#8, 0x90#8, 0xF0#8,
     0xF0#8, 0x10#8, 0x20#8, 0x40#8, 0x40#8,
     0xF0#8, 0x90#8, 0xF0#8, 0x90#8, 0xF0#8,
     0xF0#8, 0x90#8, 0xF0#8, 0x10#8, 0xF0#8,
     0xF0#8, 0x90#8, 0xF0#8, 0x90#8, 0x90#8,
     0xE0#8, 0x90#8, 0xE0#8, 0x90#8, 0xE0#8,
     0xF0#8, 0x80#8, 0x80#8, 0x80#8, 0xF0#8,
     0xE0#8, 0x90#8, 0x90#8, 0x90#8, 0xE0#8,
     0xF0#8, 0x80#8, 0xF0#8, 0x80#8, 0xF0#8,
     0xF0#8, 0x80#8, 0xF0#8, 0x80#8, 0x80#8]

/-- The byte the random source supplies to the n-th execution of RND (R132): FREE, so nothing can be proved of its
value. DESIGN CHOICE (log entry 3); safe, since a statement holds for every value of every draw. -/
opaque Config.randomByte : Nat → Byte

end Sys2Proof
end

