-- ==== Sys2Proof/Machine/State.lean ====
section
/-! DEFINITION. The state of the machine as plain data (10_state.md), the reasons a step may stop, and the state after
reset (10_state.md rule R43, 70_reset_and_hazards.md rule R220). -/

namespace Sys2Proof.Machine

/-- The mode register, the source's engine state (R31). `loadingROM` is active only inside the atomic `Load` event. -/
inductive Mode where
  | initializing
  | loadingROM
  | executing
  | paused
  | waitingForKey
deriving DecidableEq, Repr

/-- The three modes a `Pause` can interrupt, which are the values of the resume latch (R34). -/
inductive ResumeMode where
  | initializing
  | executing
  | waitingForKey
deriving DecidableEq, Repr

/-- The three fatal conditions the fault latch can hold (R35, 60_exceptions.md rules R191 to R193). -/
inductive FatalFault where
  /-- RET with one frame present (R191). -/
  | stackUnderflow
  /-- CALL with all sixteen entries in use (R192). -/
  | stackOverflow
  /-- A slice of memory that would pass address 0xFFF: DRW, the block copies, Load (R193). -/
  | outOfBounds
deriving DecidableEq, Repr

/-- The host's events and the cycle (40_engine_cycle.md rule R104, 70_reset_and_hazards.md rule R220). -/
inductive HostEvent where
  /-- `run_cycle()` (R90). -/
  | cycle
  /-- `load_program(bytes)` (R105). -/
  | load (bytes : List Byte)
  /-- `press_key(key_id)`: any number presented at the port, which keeps its low four bits (R106, D28). -/
  | pressKey (k : Nat)
  /-- `release_keys()` (R107). -/
  | releaseKeys
  /-- The external pause request (R108). -/
  | pause
  /-- Leaving Paused (R109, D19). -/
  | resume
  /-- `read_framebuffer()` (R110). -/
  | readFramebuffer
  /-- The status read (R111). -/
  | readStatus
  /-- Construction made into an event (R220). -/
  | reset
deriving DecidableEq, Repr

/-- Memory: 4096 bytes (R37, R50). `font` is the OPEN parameter `FONT` (00_scope.md rule R5, D2), what addresses 0 to 79
hold after reset; no event writes it (log entry 4). `cells` lists, by rising address, the bytes that differ from what
reset put there (log entry 5). -/
structure Memory where
  font : Vector Byte 80
  cells : List Host.Cell
deriving DecidableEq, Repr

/-- The whole state. The fields `inbox` and `draws` are the model's own (log entries 1 and 3); every other field is the
spec's, and the program counter is `stack[sp]` (R26). -/
structure State where
  /-- V0 to VF (R20). -/
  v : Vector Byte 16
  /-- The index register's sixteen bits of storage, of which bits 15:12 read as zero (R24). -/
  i : BitVec 16
  /-- The call stack; the active frame holds the program counter (R25, R26). -/
  stack : Vector Addr 16
  /-- The active frame's number (R25). -/
  sp : Fin 16
  /-- The delay timer (R28). -/
  dt : Byte
  /-- The sound timer (R29). -/
  st : Byte
  /-- The keyboard's one slot (R30). -/
  kbd : Option Nibble
  /-- The mode register (R31). -/
  mode : Mode
  /-- The word most recently fetched (R32). -/
  ir : Word
  /-- The candidate key of a wait (R33). -/
  waitPending : Option Nibble
  /-- The register a wait will write (R33). -/
  waitReg : Reg
  /-- The mode a Pause interrupted (R34). -/
  resumeMode : ResumeMode
  /-- The sticky fault latch (R35). -/
  fault : Option FatalFault
  /-- The address of the instruction that raised the fault (R35). -/
  faultAddr : Addr
  /-- The sticky invalid-opcode report (R36). -/
  inv : Bool
  /-- The most recent Invalid word (R36). -/
  invWord : Word
  /-- Its address (R36). -/
  invAddr : Addr
  /-- Memory (R37). -/
  mem : Memory
  /-- The frame buffer, row 0 first (R38). -/
  fb : Vector Scanline 32
  /-- The events still to come, the next one first; with none left the host calls `Cycle` (R6, R7, log entry 1). -/
  inbox : List HostEvent
  /-- How many random bytes RND has consumed (R132, log entry 3). -/
  draws : Nat
deriving DecidableEq, Repr

/-- Why the step function itself would stop with a fault. It has no constructor: every condition of the spec is a next
state, the fatal ones with the fault latch set and the core halted (60_exceptions.md rules R190, R196, R197, log entry
2). Nobody raises it. -/
inductive Fault where
deriving DecidableEq, Repr

/-- Why an instruction would have no meaning. -/
inductive Refusal where
  /-- Raised by an arm of `exec` for an instruction the model gives no meaning, by its mnemonic; safe. No arm raises it
  now: all thirty-five have their meaning. -/
  | notModelled (mnemonic : String)
deriving DecidableEq, Repr

/-- What a meaning, a cycle and an event answer. -/
abbrev Result := Host.Outcome State Fault Refusal

/-- The machine right after reset for a given `FONT`, no event pending (R43, R220; log entries 1, 3, 6). -/
def State.resetWith (font : Vector Byte 80) : State where
  v := Vector.replicate 16 0#8
  i := 0#16
  stack := (Vector.replicate 16 0#12).set 0 Config.entry
  sp := 0
  dt := 0#8
  st := 0#8
  kbd := none
  mode := .initializing
  ir := 0#16
  waitPending := none
  waitReg := 0
  resumeMode := .initializing
  fault := none
  faultAddr := 0#12
  inv := false
  invWord := 0#16
  invAddr := 0#12
  mem := { font := font, cells := [] }
  fb := Vector.replicate 32 0#64
  inbox := []
  draws := 0

/-- The machine right after reset (R43, R220) with the default font of R37. -/
def State.reset : State := State.resetWith Config.defaultFont

end Sys2Proof.Machine
end

