-- ==== Sys2Proof/Machine/Ops.lean ====
section
/-! DEFINITION. The named operations over memory and registers, the fetch, the tick, and the taking of each condition
(raise and report) that every instruction and event shares. -/

namespace Sys2Proof.Machine

/-! ## Memory (20_memory.md) -/

/-- What an address that no cell lists reads as: the reset contents, `FONT` at 0 to 79 and zero above (R43). -/
def Memory.unlisted (m : Memory) (a : Nat) : Byte :=
  if h : a < 80 then m.font[a] else 0#8

/-- The byte the cells list for an address, if they list one. -/
def lookupCell (a : Nat) : List Host.Cell → Option Byte
  | [] => none
  | c :: rest => if c.1 = a then some c.2 else lookupCell a rest

/-- The cells with one address set, in address order. -/
def insertCell (a : Nat) (b : Byte) : List Host.Cell → List Host.Cell
  | [] => [(a, b)]
  | c :: rest =>
    if c.1 < a then c :: insertCell a b rest
    else if c.1 = a then (a, b) :: rest
    else (a, b) :: c :: rest

/-- The cells without one address. -/
def eraseCell (a : Nat) : List Host.Cell → List Host.Cell
  | [] => []
  | c :: rest => if c.1 = a then eraseCell a rest else c :: eraseCell a rest

/-- Cells whose addresses rise strictly from at least `n`. -/
def risingFrom (n : Nat) : List Host.Cell → Bool
  | [] => true
  | c :: rest => decide (n ≤ c.1) && risingFrom (c.1 + 1) rest

/-- The canonical form: addresses strictly rising and below 4096, no cell equal to what its address reads as unlisted
(log entry 5). -/
def Memory.wf (m : Memory) : Bool :=
  risingFrom 0 m.cells && m.cells.all fun c => decide (c.1 < Config.memSize) && c.2 != m.unlisted c.1

/-- `MemRead(a, 1)` (R52). -/
def Memory.read (m : Memory) (a : Addr) : Byte :=
  (lookupCell a.toNat m.cells).getD (m.unlisted a.toNat)

/-- `MemWrite(a, 1, v)` (R53), keeping the canonical form. -/
def Memory.write (m : Memory) (a : Addr) (b : Byte) : Memory :=
  { m with cells := if b = m.unlisted a.toNat then eraseCell a.toNat m.cells else insertCell a.toNat b m.cells }

/-- `MemRead(a, 2)`: big-endian, the second address wrapping (R54). -/
def Memory.readWord (m : Memory) (a : Addr) : Word := wordOfBytes (m.read a) (m.read (a + 1#12))

/-- `n` bytes from `a` upward. -/
def Memory.readBytes (m : Memory) (a : Addr) : Nat → List Byte
  | 0 => []
  | n + 1 => m.read a :: m.readBytes (a + 1#12) n

/-- Bytes stored from `a` upward, each address made by Address arithmetic, the first byte first (R57). -/
def Memory.writeBytes (m : Memory) (a : Addr) : List Byte → Memory
  | [] => m
  | b :: bs => (m.write a b).writeBytes (a + 1#12) bs

/-- Whether `n` bytes at `a` pass the end of memory, the bounds check of a slice (R55). -/
abbrev slicePasses (a : Addr) (n : Nat) : Prop := a.toNat + n > Config.memSize

/-- `MemSlice(a, n)`: the bytes, or `none` where it raises OutOfBounds (R55). -/
def Memory.slice (m : Memory) (a : Addr) (n : Nat) : Option (List Byte) :=
  if slicePasses a n then none else some (m.readBytes a n)

/-- The storing slice of the block copies: all of the bytes or, past the end of memory, none (R56). -/
def Memory.storeSlice (m : Memory) (a : Addr) (bs : List Byte) : Option Memory :=
  if slicePasses a bs.length then none else some (m.writeBytes a bs)

/-! ## Registers -/

/-- `V[r]` (10_state.md rule R20). -/
def State.reg (s : State) (r : Reg) : Byte := s.v[r.val]

/-- `V[r] <- b` (R20). -/
def State.setReg (s : State) (r : Reg) (b : Byte) : State := { s with v := s.v.set r.val b }

/-- Registers `k`, `k + 1`, … take the bytes of a list, ascending (20_memory.md rule R57). -/
def regsWritten (v : Vector Byte 16) (k : Nat) : List Byte → Vector Byte 16
  | [] => v
  | b :: bs => regsWritten (v.setIfInBounds k b) (k + 1) bs

/-- `V[0]`, `V[1]`, … take the bytes of a list (42_memory_index.md rule R146). -/
def State.setRegs (s : State) (bs : List Byte) : State := { s with v := regsWritten s.v 0 bs }

/-- `I`: bits 15:12 of the storage read as zero (10_state.md rule R24, log entry 7). -/
def State.index (s : State) : Addr := s.i.setWidth 12

/-- `I <- a`: every value written is an Address (R24). -/
def State.setIndex (s : State) (a : Addr) : State := { s with i := a.setWidth 16 }

/-- `DT <- b` (R28). -/
def State.setDt (s : State) (b : Byte) : State := { s with dt := b }

/-- `ST <- b` (R29). -/
def State.setSt (s : State) (b : Byte) : State := { s with st := b }

/-- The keyboard slot (R30). -/
def State.setKbd (s : State) (k : Option Nibble) : State := { s with kbd := k }

/-- `is_pressed(k)` (R30). -/
def State.isPressed (s : State) (k : Nibble) : Bool := s.kbd == some k

/-- `mode <- m` (R31). -/
def State.setMode (s : State) (m : Mode) : State := { s with mode := m }

/-- Memory replaced. -/
def State.setMem (s : State) (m : Memory) : State := { s with mem := m }

/-- The frame buffer replaced (R38). -/
def State.setFb (s : State) (f : Vector Scanline 32) : State := { s with fb := f }

/-- Row `r` of the frame buffer (R38). -/
def State.row (s : State) (r : Fin 32) : Scanline := s.fb[r.val]

/-- Pixel (column c, row r): bit 63 - c of the row, lit when 1 (R38). -/
def State.pixel (s : State) (c : Fin 64) (r : Fin 32) : Bool := (s.row r).getLsbD (63 - c.val)

/-- The byte `rand()` returns to this execution of RND: free (41_register_alu.md rule R132, log entry 3). -/
def State.draw (s : State) : Byte := Config.randomByte s.draws

/-- One random byte consumed (R132). -/
def State.consumeDraw (s : State) : State := { s with draws := s.draws + 1 }

/-! ## The call stack and the program counter (10_state.md rules R25 to R27) -/

/-- Entry `k` of the call stack (R25). -/
def State.entry (s : State) (k : Fin 16) : Addr := s.stack[k.val]

/-- `pc`: the content of the active frame (R26). -/
def State.pc (s : State) : Addr := s.stack[s.sp.val]

/-- `pc <- a`: the active frame's content replaced (R26). -/
def State.setPc (s : State) (a : Addr) : State := { s with stack := s.stack.set s.sp.val a }

/-- The ordinary advance `pc <- addr(a + 2)`, wrapping (40_engine_cycle.md rule R96). -/
def State.advance (s : State) : State := s.setPc (s.pc + 2#12)

/-- A skip: `pc <- addr(a + 4)` when taken, else the ordinary advance (R96). -/
def State.skipIf (s : State) (taken : Bool) : State := if taken then s.setPc (s.pc + 4#12) else s.advance

/-- The push of a call: the next frame becomes active and holds the target (43_control_transfer.md rule R154). Used
only below the last entry. -/
def State.pushFrame (s : State) (target : Addr) : State :=
  { s with sp := s.sp + 1, stack := s.stack.set (s.sp + 1 : Fin 16).val target }

/-- The pop of a return: the frame below becomes active, the popped entry keeps its content (R152). Used only above
entry 0. -/
def State.popFrame (s : State) : State := { s with sp := s.sp - 1 }

/-! ## Conditions (60_exceptions.md) -/

/-- `raise F(a)`: latch the fatal fault with the address `pc` of the instruction (or of the Load) and write nothing
else; the core is halted from here on (R196, R197). -/
def State.raise (s : State) (f : FatalFault) : State := { s with fault := some f, faultAddr := s.pc }

/-- The three latches of `report Invalid(word, at)` (R194, 10_state.md rule R36). -/
def State.latchInvalid (s : State) (w : Word) : State := { s with inv := true, invWord := w, invAddr := s.pc }

/-- What executing an Invalid word does: the report and the ordinary advance (R194). -/
def State.reportInvalid (s : State) (w : Word) : State := (s.latchInvalid w).advance

/-- The numbers of the `fault` latch (R195). -/
def faultCode : Option FatalFault → Nat
  | none => 0
  | some .stackUnderflow => 1
  | some .stackOverflow => 2
  | some .outOfBounds => 3

/-- The core is halted while the fault latch is set (R197). -/
def State.halted (s : State) : Bool := s.fault.isSome

/-! ## Tick and fetch (40_engine_cycle.md) -/

/-- One less, floor at zero (R91). -/
def countDown (b : Byte) : Byte := if b = 0#8 then 0#8 else b - 1#8

/-- `Tick`: both timers down by one, floor at zero (R91). -/
def State.tick (s : State) : State := { s with dt := countDown s.dt, st := countDown s.st }

/-- The fetch: the word at `pc` (R93). -/
def State.fetch (s : State) : Word := s.mem.readWord s.pc

/-- What a fetch latches before dispatch: `ir <- w; mode <- Executing` (R92). -/
def State.beginInstr (s : State) (w : Word) : State := { s with ir := w, mode := .executing }

/-! ## The wait and the pause latches -/

/-- What `LD Vx, K` latches (45_timers_keyboard.md rule R180). -/
def State.startWait (s : State) (x : Reg) : State :=
  { s with waitReg := x, waitPending := s.kbd, mode := .waitingForKey }

/-- The end of a wait with key `k` (R181). -/
def State.endWait (s : State) (k : Nibble) : State :=
  { s with waitPending := some k, v := s.v.set s.waitReg.val (k.setWidth 8), mode := .executing }

/-- The resume latch and mode as a `Pause` sets them (40_engine_cycle.md rule R108). -/
def State.enterPause (s : State) (r : ResumeMode) : State := { s with resumeMode := r, mode := .paused }

/-- The event that this step performs: the oldest pending one, or a `Cycle` (log entry 1). -/
def State.nextEvent (s : State) : HostEvent := s.inbox.headD .cycle

/-- The state with its oldest pending event taken (log entry 1). -/
def State.takeEvent (s : State) : State := { s with inbox := s.inbox.tail }

end Sys2Proof.Machine
end

