-- ==== Sys2Proof/Machine/Operands.lean ====
section
/-! DEFINITION. The operand forms: nibble and address operands made from bytes (00_scope.md rule R10), the effective
addresses of index-register indirection (42_memory_index.md), the decimal digits (rule R144), and the register range of
the block copies (20_memory.md rule R57). -/

namespace Sys2Proof.Machine

/-- `nib(b)`: bits 3:0 of a byte (00_scope.md rule R10). -/
def nib (b : Byte) : Nibble := b.setWidth 4

/-- `nib(k)` of a key id of any width (40_engine_cycle.md rule R106, D28). -/
def keyNibble (k : Nat) : Nibble := BitVec.ofNat 4 k

/-- `addr(a + b)`: an Address plus a byte, masked to 12 bits (42_memory_index.md rule R141, 43_control_transfer.md rule
R159). -/
def addrPlusByte (a : Addr) (b : Byte) : Addr := a + b.setWidth 12

/-- The address of the glyph that a byte's low nibble selects (42_memory_index.md rule R142). -/
def glyphAddr (b : Byte) : Addr := BitVec.ofNat 12 (Config.glyphBytes * (nib b).toNat)

/-- The hundreds digit of a byte (R143). -/
def hundreds (p : Byte) : Byte := p / 100#8

/-- The tens digit of a byte (R143). -/
def tens (p : Byte) : Byte := (p / 10#8) % 10#8

/-- The ones digit of a byte (R143). -/
def ones (p : Byte) : Byte := p % 10#8

/-- The three digit bytes in the order they are stored (R143, R57). -/
def bcdDigits (p : Byte) : List Byte := [hundreds p, tens p, ones p]

/-- The number of registers, and bytes, that a block copy up to `Vx` moves (42_memory_index.md rules R145, R146). -/
def copyCount (x : Reg) : Nat := x.val + 1

/-- `V[0]` to `V[x]`, ascending (20_memory.md rule R57). -/
def State.regsUpTo (s : State) (x : Reg) : List Byte := s.v.toList.take (copyCount x)

/-- `I` advanced past a block copy, `addr(I + x + 1)` (R145, R146). -/
def State.indexPast (s : State) (x : Reg) : Addr := s.index + BitVec.ofNat 12 (copyCount x)

end Sys2Proof.Machine
end

