-- ==== Sys2Proof/Machine/Flags.lean ====
section
/-! DEFINITION. Every flag computation: VF is the only flag (10_state.md rule R40), written by 8XY4 to 8XY7, 8XYE and
DXYN, and the order of each write against the result is the instruction's own (41_register_alu.md rules R126 to R130). -/

namespace Sys2Proof.Machine

/-- A flag as VF holds it: 1 or 0 (R40). -/
def flagByte (b : Bool) : Byte := if b then 1#8 else 0#8

/-- The carry of an addition: the exact sum exceeds 255 (R133, R126). -/
def carryOf (p q : Byte) : Bool := decide (p.toNat + q.toNat > 255)

/-- The strict comparison of both subtract flags: p > q (R127, R129). -/
def exceeds (p q : Byte) : Bool := decide (p.toNat > q.toNat)

/-- The bit a right shift moves out (R128). -/
def lowBit (p : Byte) : Bool := p.getLsbD 0

/-- The bit a left shift moves out (R130). -/
def highBit (p : Byte) : Bool := p.getLsbD 7

/-- `V[15] <- 1` or `0` (R40). -/
def State.setFlag (s : State) (b : Bool) : State := s.setReg regVF (flagByte b)

/-- The flag of subtract-forward: VF set to 1 when p > q and otherwise not written (R127, D7, log entry 11). -/
def State.setSubFlag (s : State) (p q : Byte) : State := if exceeds p q then s.setFlag true else s

end Sys2Proof.Machine
end

