-- ==== Sys2Proof/Machine/Alu.lean ====
section
/-! DEFINITION. The register and byte-ALU instructions (41_register_alu.md). Every meaning reads its operands first
(rule R133) and ends with the ordinary advance. -/

namespace Sys2Proof.Machine

/-- 6XNN `LD Vx, nn` (R120). -/
def execLdB (x : Reg) (nn : Byte) (s : State) : Result := .next (s.setReg x nn).advance

/-- 7XNN `ADD Vx, nn`: wraps, VF not written as a flag (R121). -/
def execAddB (x : Reg) (nn : Byte) (s : State) : Result := .next (s.setReg x (s.reg x + nn)).advance

/-- 8XY0 `LD Vx, Vy` (R122). -/
def execLdR (x y : Reg) (s : State) : Result := .next (s.setReg x (s.reg y)).advance

/-- 8XY1 `OR Vx, Vy` (R123). -/
def execOrR (x y : Reg) (s : State) : Result := .next (s.setReg x (s.reg x ||| s.reg y)).advance

/-- 8XY2 `AND Vx, Vy` (R124). -/
def execAndR (x y : Reg) (s : State) : Result := .next (s.setReg x (s.reg x &&& s.reg y)).advance

/-- 8XY3 `XOR Vx, Vy` (R125). -/
def execXorR (x y : Reg) (s : State) : Result := .next (s.setReg x (s.reg x ^^^ s.reg y)).advance

/-- 8XY4 `ADD Vx, Vy`: result, then carry (R126). -/
def execAddR (x y : Reg) (s : State) : Result :=
  .next ((s.setReg x (s.reg x + s.reg y)).setFlag (carryOf (s.reg x) (s.reg y))).advance

/-- 8XY5 `SUB Vx, Vy`: result, then VF set to 1 only when V[x] > V[y] (R127). -/
def execSub (x y : Reg) (s : State) : Result :=
  .next ((s.setReg x (s.reg x - s.reg y)).setSubFlag (s.reg x) (s.reg y)).advance

/-- 8XY6 `SHR Vx`: the bit moved out, then the result; y is ignored (R128). -/
def execShr (x _y : Reg) (s : State) : Result :=
  .next ((s.setFlag (lowBit (s.reg x))).setReg x (s.reg x >>> 1)).advance

/-- 8XY7 `SUBN Vx, Vy`: result, then VF on both paths (R129). -/
def execSubn (x y : Reg) (s : State) : Result :=
  .next ((s.setReg x (s.reg y - s.reg x)).setFlag (exceeds (s.reg y) (s.reg x))).advance

/-- 8XYE `SHL Vx`: the bit moved out, then the result; y is ignored (R130). -/
def execShl (x _y : Reg) (s : State) : Result :=
  .next ((s.setFlag (highBit (s.reg x))).setReg x (s.reg x <<< 1)).advance

/-- CXNN `RND Vx, nn`: one random byte consumed, masked by nn (R131, R132). -/
def execRnd (x : Reg) (nn : Byte) (s : State) : Result := .next (s.consumeDraw.setReg x (s.draw &&& nn)).advance

end Sys2Proof.Machine
end

