-- ==== Sys2Proof/Machine/Control.lean ====
section
/-! DEFINITION. The control-transfer instructions (43_control_transfer.md). -/

namespace Sys2Proof.Machine

/-- 0NNN `SYS nnn`: intentionally a no-op (R151). -/
def execSys (_nnn : Addr) (s : State) : Result := .next s.advance

/-- 00EE `RET`: StackUnderflow with one frame present, else the frame below becomes active (R152). -/
def execRet (s : State) : Result :=
  if s.sp = 0 then .next (s.raise .stackUnderflow) else .next s.popFrame

/-- 1NNN `JP nnn` (R153). -/
def execJp (nnn : Addr) (s : State) : Result := .next (s.setPc nnn)

/-- 2NNN `CALL nnn`: StackOverflow with all entries in use, else the caller's frame takes the return address and a new
frame the target (R154). -/
def execCall (nnn : Addr) (s : State) : Result :=
  if s.sp = 15 then .next (s.raise .stackOverflow) else .next (s.advance.pushFrame nnn)

/-- 3XNN `SE Vx, nn` (R155). -/
def execSeB (x : Reg) (nn : Byte) (s : State) : Result := .next (s.skipIf (s.reg x == nn))

/-- 4XNN `SNE Vx, nn` (R156). -/
def execSneB (x : Reg) (nn : Byte) (s : State) : Result := .next (s.skipIf (s.reg x != nn))

/-- 5XY0 `SE Vx, Vy` (R157). -/
def execSeR (x y : Reg) (s : State) : Result := .next (s.skipIf (s.reg x == s.reg y))

/-- 9XY0 `SNE Vx, Vy` (R158). -/
def execSneR (x y : Reg) (s : State) : Result := .next (s.skipIf (s.reg x != s.reg y))

/-- BNNN `JP V0, nnn`: the register is always V0 (R159). -/
def execJpV0 (nnn : Addr) (s : State) : Result := .next (s.setPc (addrPlusByte nnn (s.reg 0)))

end Sys2Proof.Machine
end

