-- ==== Sys2Proof/Machine/Draw.lean ====
section
/-! DEFINITION. The XOR sprite engine and the draw instructions (44_draw.md). -/

namespace Sys2Proof.Machine

/-- The mask of one sprite row: the byte in bits 63:56 rotated right by the offset mod 64, so that what passes column 63
reappears at column 0 of the same row (R167). -/
def rowMask (b : Byte) (px : Byte) : Scanline := ((b.setWidth 64 : Scanline) <<< 56).rotateRight (px.toNat % 64)

/-- The row a sprite starts in: the vertical offset mod 32 (R168). -/
def startRow (py : Byte) : Fin 32 := ⟨py.toNat % 32, Nat.mod_lt _ (by decide)⟩

/-- Sprite rows XORed into successive scan lines from `r`, wrapping after row 31, and whether any lit pixel was hit
(R168). -/
def drawRows (fb : Vector Scanline 32) (px : Byte) (r : Fin 32) : List Byte → Vector Scanline 32 × Bool
  | [] => (fb, false)
  | b :: bs =>
    let below := drawRows (fb.set r.val (fb[r.val] ^^^ rowMask b px)) px (r + 1) bs
    (below.1, (fb[r.val] &&& rowMask b px) != 0#64 || below.2)

/-- `draw(px, py, s)` (R168). -/
def drawSprite (fb : Vector Scanline 32) (px py : Byte) (rows : List Byte) : Vector Scanline 32 × Bool :=
  drawRows fb px (startRow py) rows

/-- 00E0 `CLS`: every pixel off (R166). -/
def execCls (s : State) : Result := .next (s.setFb (Vector.replicate 32 0#64)).advance

/-- DXYN `DRW Vx, Vy, n`: the coordinates are read, the slice is checked, the sprite is drawn, VF takes the collision
flag (R169). -/
def execDrw (x y : Reg) (n : Nibble) (s : State) : Result :=
  match s.mem.slice s.index n.toNat with
  | none => .next (s.raise .outOfBounds)
  | some rows =>
    let drawn := drawSprite s.fb (s.reg x) (s.reg y) rows
    .next ((s.setFb drawn.1).setFlag drawn.2).advance

end Sys2Proof.Machine
end

