-- ==== Sys2Proof/Machine/Index.lean ====
section
/-! DEFINITION. The index-register and memory instructions (42_memory_index.md). -/

namespace Sys2Proof.Machine

/-- ANNN `LD I, nnn` (R140). -/
def execLdI (nnn : Addr) (s : State) : Result := .next (s.setIndex nnn).advance

/-- FX1E `ADD I, Vx`: wraps silently, VF not written (R141). -/
def execAddI (x : Reg) (s : State) : Result := .next (s.setIndex (addrPlusByte s.index (s.reg x))).advance

/-- FX29 `LD F, Vx` (R142). -/
def execLdF (x : Reg) (s : State) : Result := .next (s.setIndex (glyphAddr (s.reg x))).advance

/-- FX33 `LD B, Vx`: three single-byte stores at addresses that wrap (R143). -/
def execLdBcd (x : Reg) (s : State) : Result :=
  .next (s.setMem (s.mem.writeBytes s.index (bcdDigits (s.reg x)))).advance

/-- FX55 `LD [I], Vx`: all of the copy or OutOfBounds with nothing written (R145). -/
def execStRegs (x : Reg) (s : State) : Result :=
  match s.mem.storeSlice s.index (s.regsUpTo x) with
  | none => .next (s.raise .outOfBounds)
  | some m => .next ((s.setMem m).setIndex (s.indexPast x)).advance

/-- FX65 `LD Vx, [I]`: all of the copy or OutOfBounds with nothing written (R146). -/
def execLdRegs (x : Reg) (s : State) : Result :=
  match s.mem.slice s.index (copyCount x) with
  | none => .next (s.raise .outOfBounds)
  | some bytes => .next ((s.setRegs bytes).setIndex (s.indexPast x)).advance

end Sys2Proof.Machine
end

