-- ==== Sys2Proof/Machine/TimerKey.lean ====
section
/-! DEFINITION. The timer and keyboard instructions and the waiting cycle (45_timers_keyboard.md). -/

namespace Sys2Proof.Machine

/-- FX07 `LD Vx, DT` (R175). -/
def execLdVDt (x : Reg) (s : State) : Result := .next (s.setReg x s.dt).advance

/-- FX15 `LD DT, Vx` (R176). -/
def execLdDt (x : Reg) (s : State) : Result := .next (s.setDt (s.reg x)).advance

/-- FX18 `LD ST, Vx` (R177). -/
def execLdSt (x : Reg) (s : State) : Result := .next (s.setSt (s.reg x)).advance

/-- EX9E `SKP Vx`: skip when the key that the low nibble names is in the slot (R178). -/
def execSkp (x : Reg) (s : State) : Result := .next (s.skipIf (s.isPressed (nib (s.reg x))))

/-- EXA1 `SKNP Vx`: the inverted test (R179). -/
def execSknp (x : Reg) (s : State) : Result := .next (s.skipIf (!s.isPressed (nib (s.reg x))))

/-- FX0A `LD Vx, K`: start waiting; the register is written when the wait ends (R180). -/
def execLdK (x : Reg) (s : State) : Result := .next (s.startWait x).advance

/-- `WaitCycle`: any key in the slot ends the wait, else nothing (R181, D18). -/
def State.waitCycle (s : State) : State :=
  match s.kbd with
  | some k => s.endWait k
  | none => s

end Sys2Proof.Machine
end

