-- ==== Sys2Proof/Machine/Cycle.lean ====
section
/-! DEFINITION. The engine cycle (40_engine_cycle.md rules R90 to R101). -/

namespace Sys2Proof.Machine

/-- Dispatch of what the decoder answered: an instruction's own rule (R95), or the report of an Invalid word (R94,
60_exceptions.md rule R194). -/
def execDecoded (d : Decoded) (s : State) : Result :=
  match d with
  | .instr i => exec i s
  | .invalid w => .next (s.reportInvalid w)

/-- `ExecCycle`: fetch, latch, decode, execute; exactly one instruction (R92). -/
def execCycle (s : State) : Result := execDecoded (decode s.fetch) (s.beginInstr s.fetch)

/-- The mode's work in a cycle, after the tick (R90, R97, R98, R100). -/
def modeWork (s : State) : Result :=
  match s.mode with
  | .initializing => execCycle s
  | .executing => execCycle s
  | .waitingForKey => .next s.waitCycle
  | .paused => .next s
  | .loadingROM => .next s

/-- `Cycle`: nothing when halted, else the tick and then the mode's work (R90, R99). -/
def cycle (s : State) : Result := if s.halted then .next s else modeWork s.tick

/-- `run_cycles(n)`: n cycles in sequence with no host event between them (R101). -/
def runCycles : Nat → State → Result
  | 0, s => .next s
  | n + 1, s =>
    match cycle s with
    | .next t => runCycles n t
    | .fault f => .fault f
    | .refused r => .refused r

end Sys2Proof.Machine
end

