-- ==== Sys2Proof/Machine/Events.lean ====
section
/-! DEFINITION. The host's events (40_engine_cycle.md rules R103 to R111, 70_reset_and_hazards.md rule R220) and what the
host reads. An event that is not accepted has no effect at all (R104). -/

namespace Sys2Proof.Machine

/-- `Load(bytes)`: accepted in Initializing and not halted; copied upward from `pc`, or OutOfBounds with nothing written
(R105). -/
def State.load (s : State) (bytes : List Byte) : State :=
  if s.fault = none ∧ s.mode = .initializing then
    match s.mem.storeSlice s.pc bytes with
    | none => s.raise .outOfBounds
    | some m => ((s.setMode .loadingROM).setMem m).setMode .initializing
  else s

/-- `PressKey(k)`: the slot takes the low four bits of k (R106). -/
def State.pressKey (s : State) (k : Nat) : State := s.setKbd (some (keyNibble k))

/-- `ReleaseKeys`: the slot is emptied (R107). -/
def State.releaseKeys (s : State) : State := s.setKbd none

/-- The running modes, which a `Pause` can interrupt (R108). -/
def Mode.running : Mode → Option ResumeMode
  | .initializing => some .initializing
  | .executing => some .executing
  | .waitingForKey => some .waitingForKey
  | .paused => none
  | .loadingROM => none

/-- The mode a resume latch stands for (R109). -/
def ResumeMode.toMode : ResumeMode → Mode
  | .initializing => .initializing
  | .executing => .executing
  | .waitingForKey => .waitingForKey

/-- `Pause`: accepted in a running mode and not halted (R108). -/
def State.pause (s : State) : State :=
  if s.fault = none then
    match s.mode.running with
    | some r => s.enterPause r
    | none => s
  else s

/-- `Resume`: accepted in Paused (R109). -/
def State.resume (s : State) : State := if s.mode = .paused then s.setMode s.resumeMode.toMode else s

/-- What `ReadFramebuffer` returns: the rows, row 0 first (R110). -/
def State.readFramebuffer (s : State) : Vector Scanline 32 := s.fb

/-- What `ReadStatus` returns (R111). -/
structure StatusWord where
  mode : Mode
  fault : Option FatalFault
  faultAddr : Addr
  inv : Bool
  invWord : Word
  invAddr : Addr
  st : Byte
deriving DecidableEq, Repr

/-- `ReadStatus` (R111). -/
def State.readStatus (s : State) : StatusWord where
  mode := s.mode
  fault := s.fault
  faultAddr := s.faultAddr
  inv := s.inv
  invWord := s.invWord
  invAddr := s.invAddr
  st := s.st

/-- `Reset`: every piece of the spec's state at its reset value (R220). The parameter `FONT` stands, and so do the
model's own fields: the events still to come and the count of random bytes (log entry 9). -/
def State.restart (s : State) : State :=
  { State.resetWith s.mem.font with inbox := s.inbox, draws := s.draws }

/-- One event (R104). The two reads change no state; what they return are `State.readFramebuffer` and
`State.readStatus` (R110, R111). -/
def performEvent (e : HostEvent) (s : State) : Result :=
  match e with
  | .cycle => cycle s
  | .load bytes => .next (s.load bytes)
  | .pressKey k => .next (s.pressKey k)
  | .releaseKeys => .next s.releaseKeys
  | .pause => .next s.pause
  | .resume => .next s.resume
  | .readFramebuffer => .next s
  | .readStatus => .next s
  | .reset => .next s.restart

/-- One step of the machine: the oldest pending event is taken and performed; with none pending the host calls `Cycle`
(00_scope.md rules R6, R7; log entry 1). -/
def nextStep (s : State) : Result := performEvent s.nextEvent s.takeEvent

/-- The state brought to where the very next step fetches: no event pending, not halted, in a mode that executes (log
entry 8). Where that already holds, nothing changes. -/
def State.readyToFetch (s : State) : State :=
  { s with
    inbox := []
    fault := none
    mode := if s.mode = .initializing then .initializing else .executing }

/-- One instruction word placed at `pc` as memory holds it (20_memory.md rule R54, log entry 8). -/
def State.placeWord (s : State) (w : Word) : State := s.setMem (s.mem.writeBytes s.pc (wordBytes w))

end Sys2Proof.Machine
end

