-- ==== Sys2Proof/Machine/Step.lean ====
section
/-! DEFINITION. The step, and an instruction word placed where it fetches (log entry 8). -/

namespace Sys2Proof.Machine

/-- One step: one event of the host or one cycle of the core (00_scope.md rule R7, log entry 1). -/
def step (s : State) : Host.Outcome State Fault Refusal := nextStep s

/-- The state with one instruction of spec/opcode_table.json's numbering stored at `pc`, so that the very next step
fetches and runs it. -/
def State.withFetchWord (s : State) (nbits w : Nat) : State := s.readyToFetch.placeWord (tableWord nbits w)

end Sys2Proof.Machine
end

