-- ==== Sys2Proof/Safety.lean ====
section
/-! DEFINITION. The terms claims are stated in: what a safe state and an ended run are, the invariant, the parts of the
state an instruction leaves alone, and the spec's own tables of who reads and writes what. -/

namespace Sys2Proof.Machine

/-! ## Safe states and ended runs -/

/-- Nothing has gone wrong so far: no fatal fault and no Invalid word (93_implementation_defined.md U1). -/
def State.Safe (s : State) : Prop := s.fault = none ∧ s.inv = false

/-- A run has ended well: safe, executing, and the word at `pc` is a jump to itself (70_reset_and_hazards.md rule R224). -/
def State.EndedWell (s : State) : Prop :=
  s.Safe ∧ s.mode = .executing ∧ decode (s.mem.readWord s.pc) = .instr (.jp s.pc)

/-! ## The invariant -/

/-- What holds after reset and after every event (10_state.md rule R39 and its neighbours): memory in canonical form, the
model's own (log entry 5); bits 15:12 of the index register zero (R24, log entry 7); LoadingROM never seen at an event
boundary (R31, D20, log entry 18); and a halted core in the mode its fault was raised in, Executing for an instruction or
Initializing for a Load (60_exceptions.md rules R196, R197, D17). The ranges of every other field are its type. -/
structure State.Inv (s : State) : Prop where
  memCanonical : s.mem.wf = true
  indexIsAddress : s.i.toNat < 4096
  notLoading : s.mode ≠ .loadingROM
  haltedMode : s.fault ≠ none → s.mode = .initializing ∨ s.mode = .executing

/-! ## Frames -/

/-- The parts a state falls into; every field of State belongs to one. -/
inductive Part where
  | regs | index | stack | delay | sound | keyboard | mode | ir | wait | resume | fault | invalid
  | memory | font | display | inbox | draws
deriving DecidableEq, Repr

/-- One part is the same in two states, said through the model's own reads: every register, every byte, every row. -/
def SamePart (s t : State) : Part → Prop
  | .regs => ∀ r, t.reg r = s.reg r
  | .index => t.i = s.i
  | .stack => t.sp = s.sp ∧ ∀ k, t.entry k = s.entry k
  | .delay => t.dt = s.dt
  | .sound => t.st = s.st
  | .keyboard => t.kbd = s.kbd
  | .mode => t.mode = s.mode
  | .ir => t.ir = s.ir
  | .wait => t.waitPending = s.waitPending ∧ t.waitReg = s.waitReg
  | .resume => t.resumeMode = s.resumeMode
  | .fault => t.fault = s.fault ∧ t.faultAddr = s.faultAddr
  | .invalid => t.inv = s.inv ∧ t.invWord = s.invWord ∧ t.invAddr = s.invAddr
  | .memory => ∀ a, t.mem.read a = s.mem.read a
  | .font => t.mem.font = s.mem.font
  | .display => ∀ r, t.row r = s.row r
  | .inbox => t.inbox = s.inbox
  | .draws => t.draws = s.draws

/-- Every part but the named ones is the same. -/
def KeepsAllBut (changed : List Part) (s t : State) : Prop := ∀ p, p ∉ changed → SamePart s t p

/-- The program counter became `a` and the stack is otherwise the same (10_state.md rules R25, R26). -/
structure PcMoves (s t : State) (a : Addr) : Prop where
  sp : t.sp = s.sp
  pc : t.pc = a
  others : ∀ k, k ≠ s.sp → t.entry k = s.entry k

/-- One register took a byte, with the ordinary advance and nothing else (40_engine_cycle.md rule R96). -/
structure WritesReg (s t : State) (x : Reg) (b : Byte) : Prop where
  reg : ∀ r, t.reg r = if r = x then b else s.reg r
  pc : PcMoves s t (s.pc + 2#12)
  frame : KeepsAllBut [.regs, .stack] s t

/-- The index register took an address, with the ordinary advance and nothing else. -/
structure WritesIndex (s t : State) (a : Addr) : Prop where
  index : t.index = a
  pc : PcMoves s t (s.pc + 2#12)
  frame : KeepsAllBut [.index, .stack] s t

/-- Only the program counter moved: by four when `taken`, else by two (40_engine_cycle.md rule R96). -/
structure Skips (s t : State) (taken : Prop) : Prop where
  whenTaken : taken → PcMoves s t (s.pc + 4#12)
  whenNot : ¬ taken → PcMoves s t (s.pc + 2#12)
  frame : KeepsAllBut [.stack] s t

/-! ## Pixels -/

/-- The pixel that a sprite of `n` rows at `a`, drawn at (px, py), puts at column c, row r: pixel i of row j, where c lies
i columns right of px and r lies j rows below py, both wrapping (44_draw.md rules R165, R167, R168). -/
def spritePixel (m : Memory) (a : Addr) (n : Nat) (px py : Byte) (c : Fin 64) (r : Fin 32) : Bool :=
  let i := (c.val + 256 - px.toNat) % 64
  let j := (r.val + 256 - py.toNat) % 32
  decide (i < 8) && decide (j < n) && (m.read (a + BitVec.ofNat 12 j)).getLsbD (7 - i)

/-! ## The spec's tables over all instructions -/

/-- The registers an instruction may write (10_state.md rule R22). LD Vx, K writes its register when the wait ends, not
in its own cycle. -/
def writesReg (r : Reg) : Instr → Prop
  | .ldB x _ | .addB x _ | .ldR x _ | .orR x _ | .andR x _ | .xorR x _ | .rnd x _ | .ldVDt x => r = x
  | .addR x _ | .sub x _ | .shr x _ | .subn x _ | .shl x _ => r = x ∨ r = regVF
  | .drw _ _ _ => r = regVF
  | .ldRegs x => r ≤ x
  | .cls | .ret | .sys _ | .jp _ | .call _ | .seB _ _ | .sneB _ _ | .seR _ _ | .sneR _ _ | .ldI _ | .jpV0 _ | .skp _
  | .sknp _ | .ldK _ | .ldDt _ | .ldSt _ | .addI _ | .ldF _ | .ldBcd _ | .stRegs _ => False

/-- The registers an instruction reads (10_state.md rule R22). -/
def readsReg (r : Reg) : Instr → Prop
  | .addB x _ | .shr x _ | .shl x _ | .seB x _ | .sneB x _ | .skp x | .sknp x | .ldDt x | .ldSt x | .addI x | .ldF x
  | .ldBcd x => r = x
  | .ldR _ y => r = y
  | .orR x y | .andR x y | .xorR x y | .addR x y | .sub x y | .subn x y | .seR x y | .sneR x y | .drw x y _ =>
    r = x ∨ r = y
  | .jpV0 _ => r = 0
  | .stRegs x => r ≤ x
  | .cls | .ret | .sys _ | .jp _ | .call _ | .ldB _ _ | .rnd _ _ | .ldI _ | .ldVDt _ | .ldK _ | .ldRegs _ => False

/-- The parts an instruction may write: the program counter always, and what its rule names (41_register_alu.md,
42_memory_index.md, 43_control_transfer.md, 44_draw.md, 45_timers_keyboard.md, 60_exceptions.md rule R195); within the
registers `writesReg` says which. -/
def partsWritten : Instr → List Part
  | .ret | .call _ => [.stack, .fault]
  | .sys _ | .jp _ | .jpV0 _ | .seB _ _ | .sneB _ _ | .seR _ _ | .sneR _ _ | .skp _ | .sknp _ => [.stack]
  | .ldB _ _ | .addB _ _ | .ldR _ _ | .orR _ _ | .andR _ _ | .xorR _ _ | .addR _ _ | .sub _ _ | .shr _ _ | .subn _ _
  | .shl _ _ | .ldVDt _ => [.stack, .regs]
  | .rnd _ _ => [.stack, .regs, .draws]
  | .ldI _ | .addI _ | .ldF _ => [.stack, .index]
  | .ldBcd _ => [.stack, .memory]
  | .stRegs _ => [.stack, .memory, .index, .fault]
  | .ldRegs _ => [.stack, .regs, .index, .fault]
  | .cls => [.stack, .display]
  | .drw _ _ _ => [.stack, .regs, .display, .fault]
  | .ldDt _ => [.stack, .delay]
  | .ldSt _ => [.stack, .sound]
  | .ldK _ => [.stack, .wait, .mode]

/-- Which instruction may raise which fatal fault, and when (60_exceptions.md rules R191 to R193, R195). -/
def raises (s : State) : Instr → FatalFault → Prop
  | .ret, .stackUnderflow => s.sp = 0
  | .call _, .stackOverflow => s.sp = 15
  | .drw _ _ n, .outOfBounds => s.index.toNat + n.toNat > 4096
  | .stRegs x, .outOfBounds => s.index.toNat + x.val + 1 > 4096
  | .ldRegs x, .outOfBounds => s.index.toNat + x.val + 1 > 4096
  | _, _ => False

/-- The mode that the transition table gives after the step's event (40_engine_cycle.md rule R103). -/
def tableMode (s : State) : Mode :=
  match s.nextEvent with
  | .reset => .initializing
  | .pause =>
    if s.fault = none ∧ (s.mode = .initializing ∨ s.mode = .executing ∨ s.mode = .waitingForKey) then .paused
    else s.mode
  | .resume => if s.mode = .paused then s.resumeMode.toMode else s.mode
  | .cycle =>
    if s.fault ≠ none then s.mode
    else if s.mode = .initializing ∨ s.mode = .executing then
      if ∃ x, decode (s.mem.readWord s.pc) = .instr (.ldK x) then .waitingForKey else .executing
    else if s.mode = .waitingForKey ∧ s.kbd ≠ none then .executing
    else s.mode
  | .load _ | .pressKey _ | .releaseKeys | .readFramebuffer | .readStatus => s.mode

end Sys2Proof.Machine
end

