-- ==== Sys2Proof/Certificates/Slice0/Obligations.lean ====
section
/-! DEFINITION. The statements for the provers, each with the rule of spec/ it formalises. Those whose docstring says
"the spec's own decision" rest on a decision of 92_eei_decisions.md or on general knowledge (93), not on the source. -/

open Sys2Proof Sys2Proof.Machine

/-! ## Encoding (30_encoding.md) -/

/-- Decoding the word of a well-formed instruction gives the instruction back, every operand at every value (sections 2
and 4; opcode numbers are general knowledge, G1). -/
def Obligations.DecodeEncodeRoundTrip : Prop :=
  ∀ i : Instr, i.wellFormed = true → decode (encode i) = .instr i

/-- Whatever word decodes to an instruction is that instruction's own word, up to the unexamined bottom nibble of
families 5 and 9 (sections 2 and 4; G1, D11). -/
def Obligations.DecodedWordIsItsEncoding : Prop :=
  ∀ (w : Word) (i : Instr), decode w = .instr i →
    i.wellFormed = true ∧
      (w = encode i ∨
        ((fieldFam w = 0x5#4 ∨ fieldFam w = 0x9#4) ∧ ∃ n : Nibble, w = encode i ||| n.setWidth 16))

/-- The Invalid words are exactly those of families 8, E and F with an undefined sub-opcode, and Invalid carries the raw
word (section 3; G1). -/
def Obligations.InvalidWordsExactly : Prop :=
  ∀ w u : Word, decode w = .invalid u ↔
    u = w ∧
      ((fieldFam w = 0x8#4 ∧ fieldN w ∈ [0x8#4, 0x9#4, 0xA#4, 0xB#4, 0xC#4, 0xD#4, 0xF#4]) ∨
        (fieldFam w = 0xE#4 ∧ fieldNN w ∉ [0x9E#8, 0xA1#8]) ∨
        (fieldFam w = 0xF#4 ∧
          fieldNN w ∉ [0x07#8, 0x0A#8, 0x15#8, 0x18#8, 0x1E#8, 0x29#8, 0x33#8, 0x55#8, 0x65#8]))

/-- A word of each of the sixteen families and an Invalid one, written out bit by bit from section 5 and the map of
section 2 (G1), decode to what they stand for. -/
def Obligations.WrittenOutWordsDecode : Prop :=
  decode 0b0000000011100000#16 = .instr .cls ∧
    decode 0b0001001000000000#16 = .instr (.jp 0x200#12) ∧
    decode 0b0010001100000000#16 = .instr (.call 0x300#12) ∧
    decode 0b0011101001000010#16 = .instr (.seB 10 0x42#8) ∧
    decode 0b0100101001000010#16 = .instr (.sneB 10 0x42#8) ∧
    decode 0b0101000100100111#16 = .instr (.seR 1 2) ∧
    decode 0b0110000000000101#16 = .instr (.ldB 0 0x05#8) ∧
    decode 0b0111000000000011#16 = .instr (.addB 0 0x03#8) ∧
    decode 0b1000101010110100#16 = .instr (.addR 10 11) ∧
    decode 0b1001101010110111#16 = .instr (.sneR 10 11) ∧
    decode 0b1010001100000000#16 = .instr (.ldI 0x300#12) ∧
    decode 0b1011001100000000#16 = .instr (.jpV0 0x300#12) ∧
    decode 0b1100000000001111#16 = .instr (.rnd 0 0x0F#8) ∧
    decode 0b1101000000010101#16 = .instr (.drw 0 1 5#4) ∧
    decode 0b1110001110011110#16 = .instr (.skp 3) ∧
    decode 0b1111001001100101#16 = .instr (.ldRegs 2) ∧
    decode 0b1111001001100110#16 = .invalid 0xF266#16

/-- An instruction assembles to its canonical word: y = 0 in SHR and SHL, bottom nibble 0 in families 5 and 9, and for
every other instruction the word of its term. That word decodes to the canonical term, which is spelled the same and does
the same in every state: all sixteen values of y are one instruction (section 4 and R76, R77; the spec's own decisions
D10, D11, D25, opcode numbers G1). -/
def Obligations.AssemblyIsCanonical : Prop :=
  (∀ x y : Reg, assemble (.shr x y) = encode (.shr x 0) ∧ fieldY (assemble (.shr x y)) = 0 ∧
    assemble (.shl x y) = encode (.shl x 0) ∧ fieldY (assemble (.shl x y)) = 0 ∧
    fieldN (assemble (.seR x y)) = 0#4 ∧ fieldN (assemble (.sneR x y)) = 0#4) ∧
    (∀ i : Instr, (∀ x y, i ≠ .shr x y) → (∀ x y, i ≠ .shl x y) → assemble i = encode i) ∧
    ∀ i : Instr, i.canonical.asm = i.asm ∧ (∀ s, exec i.canonical s = exec i s) ∧
      (i.wellFormed = true → decode (assemble i) = .instr i.canonical)

/-! ## Register and ALU instructions (41_register_alu.md) -/

/-- R120: LD Vx, nn puts nn into V[x], advances pc by two and changes nothing else, VF included unless x = 15. -/
def Obligations.LoadByteWritesItsRegister : Prop :=
  ∀ (x : Reg) (nn : Byte) (s : State), ∃ t, exec (.ldB x nn) s = .next t ∧ WritesReg s t x nn

/-- ADD Vx, nn wraps and leaves VF alone unless x = 15; that it does so on a wrap is general knowledge (G11). -/
def Obligations.AddByteWrapsWithoutFlag : Prop :=
  ∀ (x : Reg) (nn : Byte) (s : State), ∃ t b, exec (.addB x nn) s = .next t ∧ WritesReg s t x b ∧
    b.toNat = ((s.reg x).toNat + nn.toNat) % 256

/-- LD Vx, Vy and the three bitwise operations, bit by bit; they write no flag, the spec's own decision (D26, G9). -/
def Obligations.MoveAndLogicWriteNoFlag : Prop :=
  ∀ (x y : Reg) (s : State),
    (∃ t, exec (.ldR x y) s = .next t ∧ WritesReg s t x (s.reg y)) ∧
    (∃ t b, exec (.orR x y) s = .next t ∧ WritesReg s t x b ∧
      ∀ k, b.getLsbD k = ((s.reg x).getLsbD k || (s.reg y).getLsbD k)) ∧
    (∃ t b, exec (.andR x y) s = .next t ∧ WritesReg s t x b ∧
      ∀ k, b.getLsbD k = ((s.reg x).getLsbD k && (s.reg y).getLsbD k)) ∧
    (∃ t b, exec (.xorR x y) s = .next t ∧ WritesReg s t x b ∧
      ∀ k, b.getLsbD k = ((s.reg x).getLsbD k ^^ (s.reg y).getLsbD k))

/-- ADD Vx, Vy: the wrapped sum, then VF = carry on both paths, so that VF as destination ends as the carry; the flag and
the order of the writes are the spec's own decisions (D8, D9). -/
def Obligations.AddRegistersSumThenCarry : Prop :=
  ∀ (x y : Reg) (s : State), ∃ t, exec (.addR x y) s = .next t ∧
    (∀ r, (t.reg r).toNat =
      if r = regVF then (if (s.reg x).toNat + (s.reg y).toNat > 255 then 1 else 0)
      else if r = x then ((s.reg x).toNat + (s.reg y).toNat) % 256
      else (s.reg r).toNat) ∧
    PcMoves s t (s.pc + 2#12) ∧ KeepsAllBut [.regs, .stack] s t

/-- SUB Vx, Vy: the wrapped difference, then VF = 1 if V[x] > V[y] and otherwise not written; keeping the source's
asymmetry is the spec's own decision (D7, D8). -/
def Obligations.SubtractForwardKeepsFlagOnNoCarry : Prop :=
  ∀ (x y : Reg) (s : State), ∃ t, exec (.sub x y) s = .next t ∧
    (∀ r, (t.reg r).toNat =
      if r = regVF ∧ (s.reg x).toNat > (s.reg y).toNat then 1
      else if r = x then ((s.reg x).toNat + 256 - (s.reg y).toNat) % 256
      else (s.reg r).toNat) ∧
    PcMoves s t (s.pc + 2#12) ∧ KeepsAllBut [.regs, .stack] s t

/-- SUBN Vx, Vy (R129): the wrapped difference, then VF = 1 if V[y] > V[x], explicitly 0 otherwise. Operands before
writes and the flag after the result, which show when VF is an operand, are the spec's own decision (D8, log entry 11). -/
def Obligations.SubtractReverseWritesFlagOnBothPaths : Prop :=
  ∀ (x y : Reg) (s : State), ∃ t, exec (.subn x y) s = .next t ∧
    (∀ r, (t.reg r).toNat =
      if r = regVF then (if (s.reg y).toNat > (s.reg x).toNat then 1 else 0)
      else if r = x then ((s.reg y).toNat + 256 - (s.reg x).toNat) % 256
      else (s.reg r).toNat) ∧
    PcMoves s t (s.pc + 2#12) ∧ KeepsAllBut [.regs, .stack] s t

/-- SHR Vx and SHL Vx: VF = the bit moved out, then the result, so that VF as destination ends as the result; V[y] is not
read. Shifting V[x] in place and the order of the writes are the spec's own decisions (D8, D10). -/
def Obligations.ShiftsWriteFlagThenResult : Prop :=
  ∀ (x y : Reg) (s : State),
    (∃ t, exec (.shr x y) s = .next t ∧
      (∀ r, (t.reg r).toNat =
        if r = x then (s.reg x).toNat / 2 else if r = regVF then (s.reg x).toNat % 2 else (s.reg r).toNat) ∧
      PcMoves s t (s.pc + 2#12) ∧ KeepsAllBut [.regs, .stack] s t) ∧
    (∃ t, exec (.shl x y) s = .next t ∧
      (∀ r, (t.reg r).toNat =
        if r = x then (s.reg x).toNat * 2 % 256 else if r = regVF then (s.reg x).toNat / 128 else (s.reg r).toNat) ∧
      PcMoves s t (s.pc + 2#12) ∧ KeepsAllBut [.regs, .stack] s t)

/-- RND Vx, nn: the byte the random source supplies (free, whatever its value; no law of its distribution), masked by nn.
That the byte is a free input is the spec's own decision (D22); the count of draws is the model's own field (log entry
3). -/
def Obligations.RandomByteIsMasked : Prop :=
  ∀ (x : Reg) (nn : Byte) (s : State), ∃ t, exec (.rnd x nn) s = .next t ∧
    (∀ r, t.reg r = if r = x then Config.randomByte s.draws &&& nn else s.reg r) ∧
    t.draws = s.draws + 1 ∧ PcMoves s t (s.pc + 2#12) ∧ KeepsAllBut [.regs, .stack, .draws] s t

/-! ## Index and memory instructions (42_memory_index.md) -/

/-- LD I, nnn and ADD I, Vx: the second wraps mod 4096 and writes no flag, the spec's own decisions (D12, D26, G9). -/
def Obligations.IndexLoadsAndWraps : Prop :=
  ∀ s : State,
    (∀ nnn : Addr, ∃ t, exec (.ldI nnn) s = .next t ∧ WritesIndex s t nnn) ∧
    (∀ x : Reg, ∃ t a, exec (.addI x) s = .next t ∧ WritesIndex s t a ∧
      a.toNat = (s.index.toNat + (s.reg x).toNat) % 4096)

/-- R142: LD F, Vx sets I to five times the low nibble of V[x] and changes nothing else but pc. -/
def Obligations.GlyphAddressFromLowNibble : Prop :=
  ∀ (x : Reg) (s : State), ∃ t a, exec (.ldF x) s = .next t ∧ WritesIndex s t a ∧
    a.toNat = 5 * ((s.reg x).toNat % 16)

/-- LD B, Vx: hundreds, tens and ones at I, addr(I + 1), addr(I + 2), wrapping, the spec's own decision (D27); I and every
other byte unchanged. -/
def Obligations.BcdStoreWritesThreeBytes : Prop :=
  ∀ (x : Reg) (s : State), ∃ t, exec (.ldBcd x) s = .next t ∧
    (∀ a, (t.mem.read a).toNat =
      if a = s.index then (s.reg x).toNat / 100
      else if a = s.index + 1#12 then (s.reg x).toNat / 10 % 10
      else if a = s.index + 2#12 then (s.reg x).toNat % 10
      else (s.mem.read a).toNat) ∧
    PcMoves s t (s.pc + 2#12) ∧ KeepsAllBut [.memory, .stack] s t

/-- The digits that LD B stores at I, addr(I + 1), addr(I + 2) recompose to the byte, hundreds in [0,2], tens and ones in
[0,9] (the law of R144 at the addresses of R143); that the addresses wrap is the spec's own decision (D27, log entry 13). -/
def Obligations.StoredDigitsRecompose : Prop :=
  ∀ (x : Reg) (s : State), ∃ t, exec (.ldBcd x) s = .next t ∧
    (t.mem.read s.index).toNat * 100 + (t.mem.read (s.index + 1#12)).toNat * 10 +
        (t.mem.read (s.index + 2#12)).toNat = (s.reg x).toNat ∧
    (t.mem.read s.index).toNat ≤ 2 ∧ (t.mem.read (s.index + 1#12)).toNat ≤ 9 ∧
    (t.mem.read (s.index + 2#12)).toNat ≤ 9

/-- LD [I], Vx (R145): OutOfBounds with nothing else written, or V0 to Vx at I upward and I advanced by x + 1. The check
and the precise fault with its latches are the spec's own decisions (R196; D13, D17); that a fault is a next state is log
entry 2. -/
def Obligations.BlockStoreCopiesOrFaults : Prop :=
  ∀ (x : Reg) (s : State),
    (s.index.toNat + x.val + 1 > 4096 →
      exec (.stRegs x) s = .next { s with fault := some .outOfBounds, faultAddr := s.pc }) ∧
    (s.index.toNat + x.val + 1 ≤ 4096 → ∃ t, exec (.stRegs x) s = .next t ∧
      (∀ a, t.mem.read a =
        if h : (a - s.index).toNat ≤ x.val then s.reg ⟨(a - s.index).toNat, by omega⟩ else s.mem.read a) ∧
      t.index = s.index + BitVec.ofNat 12 (x.val + 1) ∧
      PcMoves s t (s.pc + 2#12) ∧ KeepsAllBut [.memory, .index, .stack] s t)

/-- LD Vx, [I] (R146): OutOfBounds with nothing else written, or V0 to Vx from I upward and I advanced by x + 1. The
check and the precise fault with its latches are the spec's own decisions (R196; D13, D17); that a fault is a next state
is log entry 2. -/
def Obligations.BlockLoadCopiesOrFaults : Prop :=
  ∀ (x : Reg) (s : State),
    (s.index.toNat + x.val + 1 > 4096 →
      exec (.ldRegs x) s = .next { s with fault := some .outOfBounds, faultAddr := s.pc }) ∧
    (s.index.toNat + x.val + 1 ≤ 4096 → ∃ t, exec (.ldRegs x) s = .next t ∧
      (∀ r, t.reg r = if r ≤ x then s.mem.read (s.index + BitVec.ofNat 12 r.val) else s.reg r) ∧
      t.index = s.index + BitVec.ofNat 12 (x.val + 1) ∧
      PcMoves s t (s.pc + 2#12) ∧ KeepsAllBut [.regs, .index, .stack] s t)

/-! ## Control transfer (43_control_transfer.md) -/

/-- R151: SYS nnn is a no-op but for the advance. -/
def Obligations.SystemCallIsNoop : Prop :=
  ∀ (nnn : Addr) (s : State), ∃ t, exec (.sys nnn) s = .next t ∧
    PcMoves s t (s.pc + 2#12) ∧ KeepsAllBut [.stack] s t

/-- JP nnn and JP V0, nnn (R153, R159) replace the active frame's address by their target; that the sum of JP V0 wraps
mod 4096 is the spec's own decision (D12, log entry 13). -/
def Obligations.JumpsReplaceTheActiveAddress : Prop :=
  ∀ (nnn : Addr) (s : State),
    (∃ t, exec (.jp nnn) s = .next t ∧ PcMoves s t nnn ∧ KeepsAllBut [.stack] s t) ∧
    (∃ t a, exec (.jpV0 nnn) s = .next t ∧ PcMoves s t a ∧
      a.toNat = (nnn.toNat + (s.reg 0).toNat) % 4096 ∧ KeepsAllBut [.stack] s t)

/-- CALL nnn: StackOverflow with all sixteen entries in use and nothing else written, or the return address in the
caller's frame and the target in a new one. The overflow fault (D14), its precision and its latches (R196, D17) and which
of call and return makes the advance (D15) are the spec's own decisions; that a fault is a next state is log entry 2. -/
def Obligations.CallPushesOrOverflows : Prop :=
  ∀ (nnn : Addr) (s : State),
    (s.sp = 15 → exec (.call nnn) s = .next { s with fault := some .stackOverflow, faultAddr := s.pc }) ∧
    (s.sp ≠ 15 → ∃ t, exec (.call nnn) s = .next t ∧ t.sp.val = s.sp.val + 1 ∧ t.pc = nnn ∧
      t.entry s.sp = s.pc + 2#12 ∧ (∀ k, k ≠ s.sp → k.val ≠ s.sp.val + 1 → t.entry k = s.entry k) ∧
      KeepsAllBut [.stack] s t)

/-- RET (R152): StackUnderflow with one frame present and nothing else written, or the frame below becomes active with
every live entry as it was and no further advance. The precise fault with its latches is the spec's own decision (R196,
D17); that a fault is a next state is log entry 2; the popped entry is left out, as U9 asks (log entry 15). -/
def Obligations.ReturnPopsOrUnderflows : Prop :=
  ∀ s : State,
    (s.sp = 0 → exec .ret s = .next { s with fault := some .stackUnderflow, faultAddr := s.pc }) ∧
    (s.sp ≠ 0 → ∃ t, exec .ret s = .next t ∧ t.sp.val + 1 = s.sp.val ∧ t.pc = s.entry t.sp ∧
      (∀ k, k ≤ t.sp → t.entry k = s.entry k) ∧ KeepsAllBut [.stack] s t)

/-- A call and then a return come back to the instruction after the call, at the depth before it, all live frames below
as they were; that the call makes the advance is the spec's own decision (D15, C11). -/
def Obligations.CallThenReturnComesBack : Prop :=
  ∀ (nnn : Addr) (s : State), s.sp ≠ 15 → ∃ t u, exec (.call nnn) s = .next t ∧ exec .ret t = .next u ∧
    u.pc = s.pc + 2#12 ∧ u.sp = s.sp ∧ (∀ k, k.val < s.sp.val → u.entry k = s.entry k) ∧ KeepsAllBut [.stack] s u

/-- The four value skips; which comparison each makes is the spec's own decision (D29, G6). -/
def Obligations.ValueSkipsTakeTheirCondition : Prop :=
  ∀ (x y : Reg) (nn : Byte) (s : State),
    (∃ t, exec (.seB x nn) s = .next t ∧ Skips s t (s.reg x = nn)) ∧
    (∃ t, exec (.sneB x nn) s = .next t ∧ Skips s t (s.reg x ≠ nn)) ∧
    (∃ t, exec (.seR x y) s = .next t ∧ Skips s t (s.reg x = s.reg y)) ∧
    (∃ t, exec (.sneR x y) s = .next t ∧ Skips s t (s.reg x ≠ s.reg y))

/-! ## Drawing (44_draw.md) -/

/-- R166: CLS zeroes the entire buffer and writes nothing else. -/
def Obligations.ClearScreenZeroesEveryRow : Prop :=
  ∀ s : State, ∃ t, exec .cls s = .next t ∧ (∀ r, t.row r = 0#64) ∧
    PcMoves s t (s.pc + 2#12) ∧ KeepsAllBut [.display, .stack] s t

/-- DRW Vx, Vy, n that fits, pixel by pixel: each pixel is XORed with the sprite's, wrapping on both axes, VF = 1 exactly
when some lit pixel was hit, and nothing else changes. That V[x] is the column and V[y] the row, and the reduction mod 64,
are the spec's own (G7, D21). -/
def Obligations.DrawXorsEveryPixel : Prop :=
  ∀ (x y : Reg) (n : Nibble) (s : State), s.index.toNat + n.toNat ≤ 4096 →
    ∃ t, exec (.drw x y n) s = .next t ∧
      (∀ c r, t.pixel c r =
        (s.pixel c r ^^ spritePixel s.mem s.index n.toNat (s.reg x) (s.reg y) c r)) ∧
      t.reg regVF = (if ∃ c r, s.pixel c r = true ∧
        spritePixel s.mem s.index n.toNat (s.reg x) (s.reg y) c r = true then 1#8 else 0#8) ∧
      (∀ r, r ≠ regVF → t.reg r = s.reg r) ∧
      PcMoves s t (s.pc + 2#12) ∧ KeepsAllBut [.regs, .display, .stack] s t

/-- Drawing the same sprite twice at the same place restores the buffer, and where the first draw hit nothing the second
collides exactly when the sprite has a set pixel; derived from the rules of the engine (section 3; G7, D21). VF is no
coordinate, since the first draw writes it. -/
def Obligations.DrawTwiceRestoresAndCollides : Prop :=
  ∀ (x y : Reg) (n : Nibble) (s : State), s.index.toNat + n.toNat ≤ 4096 → x ≠ regVF → y ≠ regVF →
    ∃ t u, exec (.drw x y n) s = .next t ∧ exec (.drw x y n) t = .next u ∧
      (∀ r, u.row r = s.row r) ∧
      (t.reg regVF = 0#8 →
        (u.reg regVF = 1#8 ↔ ∃ j, j < n.toNat ∧ s.mem.read (s.index + BitVec.ofNat 12 j) ≠ 0#8))

/-! ## Timers and keyboard (45_timers_keyboard.md) -/

/-- LD Vx, DT; LD DT, Vx; LD ST, Vx; that these instructions exist and which timer each names is general knowledge (G8). -/
def Obligations.TimerMovesCopyTheByte : Prop :=
  ∀ (x : Reg) (s : State),
    (∃ t, exec (.ldVDt x) s = .next t ∧ WritesReg s t x s.dt) ∧
    (∃ t, exec (.ldDt x) s = .next t ∧ t.dt = s.reg x ∧ PcMoves s t (s.pc + 2#12) ∧
      KeepsAllBut [.delay, .stack] s t) ∧
    (∃ t, exec (.ldSt x) s = .next t ∧ t.st = s.reg x ∧ PcMoves s t (s.pc + 2#12) ∧
      KeepsAllBut [.sound, .stack] s t)

/-- R178, R179: SKP and SKNP test the slot against the low nibble of V[x]. -/
def Obligations.KeySkipsTestTheLowNibble : Prop :=
  ∀ (x : Reg) (s : State),
    (∃ t, exec (.skp x) s = .next t ∧ Skips s t (∃ k, s.kbd = some k ∧ k.toNat = (s.reg x).toNat % 16)) ∧
    (∃ t, exec (.sknp x) s = .next t ∧ Skips s t (¬ ∃ k, s.kbd = some k ∧ k.toNat = (s.reg x).toNat % 16))

/-- LD Vx, K latches the register number and the candidate, starts the wait and advances; no register is written yet.
The semantics of the wait is the spec's own decision (D18). -/
def Obligations.WaitForKeyStartsWaiting : Prop :=
  ∀ (x : Reg) (s : State), ∃ t, exec (.ldK x) s = .next t ∧
    t.waitReg = x ∧ t.waitPending = s.kbd ∧ t.mode = .waitingForKey ∧
    PcMoves s t (s.pc + 2#12) ∧ KeepsAllBut [.wait, .mode, .stack] s t

/-- A waiting cycle ticks; with key k in the slot it writes k to the latched register and goes on executing, with none it
does no more; it never fetches. Any key ends the wait (D18) and the tick in a waiting cycle (D6) are the spec's own
decisions; that the key number is what the register takes is general knowledge (G10). -/
def Obligations.WaitingCyclePollsTheSlot : Prop :=
  ∀ s : State, s.fault = none → s.mode = .waitingForKey →
    (s.kbd = none → cycle s = .next s.tick) ∧
    (∀ k, s.kbd = some k → ∃ t, cycle s = .next t ∧
      t.mode = .executing ∧ t.waitPending = some k ∧ t.waitReg = s.waitReg ∧
      (∀ r, t.reg r = if r = s.waitReg then k.setWidth 8 else s.reg r) ∧
      t.dt = countDown s.dt ∧ t.st = countDown s.st ∧
      KeepsAllBut [.mode, .wait, .regs, .delay, .sound] s t)

/-! ## The engine (40_engine_cycle.md) and the conditions (60_exceptions.md) -/

/-- A step that performs a Cycle in Initializing or Executing runs exactly the instruction that the two bytes at pc, the
first the high one, decode to, after the tick and with ir and mode latched. The tick before dispatch and executing from
Initializing are the spec's own decisions (D5, D6); the inbox is the model's (log entry 1). -/
def Obligations.StepRunsTheDecodedInstruction : Prop :=
  ∀ (s : State) (w : Word) (i : Instr), s.nextEvent = .cycle → s.fault = none →
    (s.mode = .initializing ∨ s.mode = .executing) →
    w.toNat = (s.mem.read s.pc).toNat * 256 + (s.mem.read (s.pc + 1#12)).toNat → decode w = .instr i →
    step s = exec i { s with
      inbox := s.inbox.tail, dt := countDown s.dt, st := countDown s.st, ir := w, mode := .executing }

/-- A step takes the oldest pending event and performs it, and with none pending it is a Cycle (the inbox is the model's,
log entry 1); what Cycle, Load, Pause, Resume and the status read are as events. -/
def Obligations.StepPerformsTheNextEvent : Prop :=
  ∀ s : State,
    (∀ e rest, s.inbox = e :: rest → step s = performEvent e { s with inbox := rest }) ∧
    (s.inbox = [] → step s = cycle s) ∧
    performEvent .cycle s = cycle s ∧ (∀ bytes, performEvent (.load bytes) s = .next (s.load bytes)) ∧
    performEvent .pause s = .next s.pause ∧ performEvent .resume s = .next s.resume ∧
    performEvent .readStatus s = .next s

/-- A step that fetches an Invalid word reports it in the three latches, advances and changes nothing else but the tick
and the fetch (R92, R194). That it is not fatal (D16), that the tick comes first (D6) and that Initializing executes and
becomes Executing (D5) are the spec's own decisions; the pending events are the model's (log entry 1). -/
def Obligations.InvalidWordIsReportedAndSkipped : Prop :=
  ∀ (s : State) (w : Word), s.nextEvent = .cycle → s.fault = none →
    (s.mode = .initializing ∨ s.mode = .executing) →
    w.toNat = (s.mem.read s.pc).toNat * 256 + (s.mem.read (s.pc + 1#12)).toNat → decode w = .invalid w →
    ∃ t, step s = .next t ∧ t.inv = true ∧ t.invWord = w ∧ t.invAddr = s.pc ∧ t.ir = w ∧ t.mode = .executing ∧
      t.dt = countDown s.dt ∧ t.st = countDown s.st ∧ t.inbox = s.inbox.tail ∧
      PcMoves s t (s.pc + 2#12) ∧ KeepsAllBut [.invalid, .ir, .mode, .delay, .sound, .inbox, .stack] s t

/-- A cycle in mode Paused, of a core that is not halted, ticks the timers and does nothing else (R97); that it ticks is
the spec's own decision (D6, log entry 14). -/
def Obligations.PausedCycleOnlyTicks : Prop :=
  ∀ s : State, s.fault = none → s.mode = .paused →
    ∃ t, cycle s = .next t ∧ t.dt.toNat = s.dt.toNat - 1 ∧ t.st.toNat = s.st.toNat - 1 ∧
      KeepsAllBut [.delay, .sound] s t

/-- In every mode a cycle takes one from each timer, floor at zero, unless it executes the instruction that sets that
timer; ticking in every mode and before dispatch is the spec's own decision (D6, C1). -/
def Obligations.TimersTickInEveryMode : Prop :=
  ∀ s t : State, s.fault = none → cycle s = .next t →
    ((∀ x, (s.mode = .initializing ∨ s.mode = .executing) → decode (s.mem.readWord s.pc) ≠ .instr (.ldDt x)) →
      t.dt.toNat = s.dt.toNat - 1) ∧
    ((∀ x, (s.mode = .initializing ∨ s.mode = .executing) → decode (s.mem.readWord s.pc) ≠ .instr (.ldSt x)) →
      t.st.toNat = s.st.toNat - 1)

/-- A halted core is frozen: until Reset no event changes anything but the keyboard slot (and the events still to come, the
model's, log entry 1). The halt and what it refuses are the spec's own decision (D17), and that the machine goes on in
next states is log entry 2; the invariant rules out a halted core in Paused. -/
def Obligations.HaltedCoreIsFrozen : Prop :=
  ∀ s : State, s.Inv → s.fault ≠ none → s.nextEvent ≠ .reset →
    ∃ t, step s = .next t ∧ KeepsAllBut [.keyboard, .inbox] s t

/-- The fault latch with its address, once set, and the Invalid report, once set, stay until Reset (10_state.md section 9,
clause f); the latches are the spec's own decisions (D16, D17), the events still to come the model's (log entry 1). -/
def Obligations.ReportsAreStickyUntilReset : Prop :=
  ∀ s t : State, s.nextEvent ≠ .reset → step s = .next t →
    (s.fault ≠ none → t.fault = s.fault ∧ t.faultAddr = s.faultAddr) ∧ (s.inv = true → t.inv = true)

/-- Fatal faults are precise, and each has exactly its causes: an instruction raises a fault exactly when the table says,
and then it writes the two latches and nothing else. The bounds checks (D13), StackOverflow (D14) and all-or-nothing (R196,
D17) are the spec's own decisions; that a fault is a next state is log entry 2. -/
def Obligations.FatalFaultsArePreciseAndCaused : Prop :=
  ∀ (i : Instr) (s t : State) (f : FatalFault), s.fault = none → exec i s = .next t →
    (t.fault = some f ↔ raises s i f) ∧
    (t.fault = some f → t = { s with fault := some f, faultAddr := s.pc })

/-- The four causes of OutOfBounds (R193), what each records, and that nothing else is written. That slices are checked,
that the fault is precise, and that a Load which does not fit is one are the spec's own decisions (R196, R105; D13, D17,
D20); that a fault is a next state is log entry 2. -/
def Obligations.OutOfBoundsHasFourCauses : Prop :=
  ∀ s : State,
    (∀ x y n, s.index.toNat + n.toNat > 4096 →
      exec (.drw x y n) s = .next { s with fault := some .outOfBounds, faultAddr := s.pc }) ∧
    (∀ x, s.index.toNat + x.val + 1 > 4096 →
      exec (.stRegs x) s = .next { s with fault := some .outOfBounds, faultAddr := s.pc } ∧
      exec (.ldRegs x) s = .next { s with fault := some .outOfBounds, faultAddr := s.pc }) ∧
    (∀ bytes, s.fault = none → s.mode = .initializing → s.pc.toNat + bytes.length > 4096 →
      s.load bytes = { s with fault := some .outOfBounds, faultAddr := s.pc })

/-- The mode after any step is the one the complete transition table gives; several of its rows are the spec's own
decisions (D5, D17, D18, D19, D20); which event a step performs is the model's inbox (log entry 1). -/
def Obligations.ModeFollowsTheTransitionTable : Prop :=
  ∀ s t : State, step s = .next t → t.mode = tableMode s

/-- Every step of every state answers a next state: no condition of the spec stops the machine's step function (log entry
2 says how the fatal ones are held). -/
def Obligations.EveryStepAnswersNextState : Prop :=
  ∀ s : State, ∃ t, step s = .next t

/-! ## Memory (20_memory.md) -/

/-- A store is seen by the very next fetch: LD [I], Vx over the word after itself puts V0, V1 there (section 5, the
spec's own derivation). -/
def Obligations.StoredCodeIsFetchedNext : Prop :=
  ∀ (x : Reg) (s : State), 1 ≤ x.val → s.index = s.pc + 2#12 → s.index.toNat + x.val + 1 ≤ 4096 →
    ∃ t, exec (.stRegs x) s = .next t ∧ t.pc = s.index ∧
      t.fetch.toNat = (s.reg 0).toNat * 256 + (s.reg 1).toNat

/-! ## Host events (40_engine_cycle.md, 70_reset_and_hazards.md) -/

/-- Load places its bytes at pc upward and changes no other byte and nothing else, in Initializing; in any other mode, or
when halted, it has no effect. Refusing it there is the spec's own decision (D20). -/
def Obligations.LoadCopiesOnlyInInitializing : Prop :=
  ∀ (s : State) (bytes : List Byte),
    (s.fault = none → s.mode = .initializing → s.pc.toNat + bytes.length ≤ 4096 →
      (∀ a, (s.load bytes).mem.read a =
        if h : (a - s.pc).toNat < bytes.length then bytes[(a - s.pc).toNat] else s.mem.read a) ∧
      KeepsAllBut [.memory] s (s.load bytes)) ∧
    (s.fault ≠ none ∨ s.mode ≠ .initializing → s.load bytes = s)

/-- R107: ReleaseKeys empties the slot in every mode and changes nothing else. -/
def Obligations.ReleaseKeysEmptiesTheSlot : Prop :=
  ∀ s : State, ∃ t, performEvent .releaseKeys s = .next t ∧ t.kbd = none ∧ KeepsAllBut [.keyboard] s t

/-- PressKey(k) overwrites the slot with the low four bits of k in every mode, halted or not, and changes nothing else;
the four-bit port is the spec's own decision (D28). -/
def Obligations.PressKeyOverwritesTheSlot : Prop :=
  ∀ (s : State) (k : Nat), ∃ t n, performEvent (.pressKey k) s = .next t ∧ t.kbd = some n ∧ n.toNat = k % 16 ∧
    KeepsAllBut [.keyboard] s t

/-- Pause, any number of cycles, Resume: the machine stands where it was but for the timers, which count every cycle, and
the resume latch, which names the mode interrupted. A Pause that is not accepted (halted, or Paused already, when it must
not overwrite the latch) and a Resume outside Paused change nothing. Resume, the latch and what is refused are the spec's
own decision (D19), and so is the tick (D6). -/
def Obligations.PauseThenResumeOnlyTicks : Prop :=
  (∀ (n : Nat) (s : State), s.fault = none →
    (s.mode = .initializing ∨ s.mode = .executing ∨ s.mode = .waitingForKey) →
    ∃ t, runCycles n s.pause = .next t ∧ t.mode = .paused ∧ t.resume.mode = s.mode ∧
      t.resume.resumeMode.toMode = s.mode ∧
      t.resume.dt.toNat = s.dt.toNat - n ∧ t.resume.st.toNat = s.st.toNat - n ∧
      KeepsAllBut [.delay, .sound, .resume] s t.resume) ∧
    (∀ s : State, s.fault ≠ none ∨ s.mode = .paused ∨ s.mode = .loadingROM → s.pause = s) ∧
    ∀ s : State, s.mode ≠ .paused → s.resume = s

/-- The event ReadFramebuffer changes no state, and what it returns, which the model gives as a function of the state (log
entry 16), is the rows, row 0 first (R110). -/
def Obligations.ReadFramebufferChangesNothing : Prop :=
  ∀ s : State, performEvent .readFramebuffer s = .next s ∧ ∀ r : Fin 32, s.readFramebuffer[r] = s.row r

/-- The event ReadStatus changes no state, and what it returns, which the model gives as a function of the state (log
entry 16), is mode, fault and its address, the Invalid report with its word and address, and ST (R111); the event is the
spec's own decision (D16, D17). -/
def Obligations.ReadStatusReturnsTheReports : Prop :=
  ∀ s : State, performEvent .readStatus s = .next s ∧
    s.readStatus.mode = s.mode ∧ s.readStatus.fault = s.fault ∧ s.readStatus.faultAddr = s.faultAddr ∧
    s.readStatus.inv = s.inv ∧ s.readStatus.invWord = s.invWord ∧ s.readStatus.invAddr = s.invAddr ∧
    s.readStatus.st = s.st

/-- What the Reset event leaves, for every FONT: the font at 0 to 79, mode Initializing, pc 0x200 in the one frame, and
zero, empty or none everywhere else. The zeros and the event are the spec's own decisions (D3, D4, D17). -/
def Obligations.ResetLeavesTheTabulatedValues : Prop :=
  ∀ s : State, ∃ t, performEvent .reset s = .next t ∧
    (∀ r, t.reg r = 0#8) ∧ t.i = 0#16 ∧ t.sp = 0 ∧ t.pc = 0x200#12 ∧ (∀ k, k ≠ 0 → t.entry k = 0#12) ∧
    t.dt = 0#8 ∧ t.st = 0#8 ∧ t.kbd = none ∧ t.mode = .initializing ∧ t.ir = 0#16 ∧
    t.waitPending = none ∧ t.waitReg = 0 ∧ t.resumeMode = .initializing ∧ t.fault = none ∧ t.faultAddr = 0#12 ∧
    t.inv = false ∧ t.invWord = 0#16 ∧ t.invAddr = 0#12 ∧
    (∀ a : Addr, t.mem.read a = if h : a.toNat < 80 then s.mem.font[a.toNat] else 0#8) ∧ (∀ r, t.row r = 0#64)

/-- A run that has ended well (R224, the spec's own definition) changes nothing any more but the timers, which tick, and ir,
which becomes the word of the jump to itself, and it stays ended. That ir takes the fetched word is R92; the tick in every
cycle is R91, the spec's own decision (D6). -/
def Obligations.EndedRunOnlyTicks : Prop :=
  ∀ s : State, s.EndedWell → ∃ t, cycle s = .next t ∧ t.EndedWell ∧ KeepsAllBut [.delay, .sound, .ir] s t ∧
    t.dt = countDown s.dt ∧ t.st = countDown s.st ∧ t.ir = s.mem.readWord s.pc

/-! ## Invariants and whole-machine rules -/

/-- The invariant holds after reset, for every FONT. Its canonical form of memory is the model's own (log entry 5); that
bits 15:12 of I are zero is R24 (log entry 7); that LoadingROM is not seen (D20, log entry 18) and the mode of a
halted core (D17) rest on the spec's own decisions. -/
def Obligations.InvariantHoldsAtReset : Prop :=
  Sys2Proof.Machine.State.reset.Inv ∧ ∀ font, (State.resetWith font).Inv

/-- Every step keeps the invariant, from every state that has it. Its canonical form of memory is the model's own (log entry
5); that bits 15:12 of I stay zero is R24 (log entry 7); that LoadingROM is not seen (D20, log entry 18) and that a
halted core stays in the mode of its fault (R197, D17) rest on the spec's own decisions. -/
def Obligations.StepKeepsTheInvariant : Prop :=
  ∀ s t : State, s.Inv → Sys2Proof.Machine.step s = .next t → t.Inv

/-- No instruction writes a register that the access table does not give it (10_state.md section 1, the spec's own
derivation). -/
def Obligations.OnlyListedRegistersAreWritten : Prop :=
  ∀ (i : Instr) (s t : State) (r : Reg), exec i s = .next t → ¬ writesReg r i → t.reg r = s.reg r

/-- A register that the access table does not say an instruction reads has no influence on it: changing the register
changes no other register and no other part of the result (10_state.md section 1, the spec's own derivation). -/
def Obligations.UnreadRegistersHaveNoInfluence : Prop :=
  ∀ (i : Instr) (s t : State) (r : Reg) (b : Byte), ¬ readsReg r i → exec i s = .next t →
    ∃ u, exec i (s.setReg r b) = .next u ∧ (∀ q, q ≠ r → u.reg q = t.reg q) ∧ KeepsAllBut [.regs] t u

/-- The sound timer is read by no instruction: changing it changes the result in nothing but the sound timer
(10_state.md section 4). -/
def Obligations.SoundTimerHasNoInfluence : Prop :=
  ∀ (i : Instr) (s t : State) (b : Byte), exec i s = .next t →
    ∃ u, exec i (s.setSt b) = .next u ∧ KeepsAllBut [.sound] t u ∧ ((∀ x, i ≠ .ldSt x) → u.st = b)

/-- Stack entries above the active frame are unobservable: two states that differ only there stay so under every
instruction (93_implementation_defined.md U9, 43_control_transfer.md RET). -/
def Obligations.DeadFramesHaveNoInfluence : Prop :=
  ∀ (i : Instr) (s t : State) (dead : Vector Addr 16), (∀ k : Fin 16, k ≤ s.sp → dead[k] = s.entry k) →
    exec i s = .next t →
    ∃ u, exec i { s with stack := dead } = .next u ∧ u.sp = t.sp ∧ (∀ k, k ≤ t.sp → u.entry k = t.entry k) ∧
      KeepsAllBut [.stack] t u

/-- Only CALL and RET move the stack pointer, by one, and no instruction writes an entry other than the active frame
before or after it (10_state.md section 3, 43_control_transfer.md section on the stack's properties). -/
def Obligations.OnlyCallAndReturnMoveTheStack : Prop :=
  ∀ (i : Instr) (s t : State), exec i s = .next t →
    ((t.sp = s.sp) ∨ ((∃ nnn, i = .call nnn) ∧ t.sp.val = s.sp.val + 1) ∨ (i = .ret ∧ t.sp.val + 1 = s.sp.val)) ∧
    (∀ k, k ≠ s.sp → k ≠ t.sp → t.entry k = s.entry k)

/-- Every instruction leaves alone every part that its row of `partsWritten` does not list, so none writes the keyboard
slot, ir, FONT, the resume latch, the Invalid report or the pending events; only LD I, ADD I, LD F and the block copies
write I, only LD DT writes DT, only LD ST writes ST, only LD Vx, K writes the mode and the wait latches, only RET, CALL,
DRW and the block copies write the fault latch, only CLS and DRW the frame buffer, only LD B and LD [I] memory. Only RND
consumes a random byte, exactly one (R132); the count of them is the model's own field (log entry 3). -/
def Obligations.NothingElseIsWritten : Prop :=
  ∀ (i : Instr) (s t : State), exec i s = .next t →
    KeepsAllBut (partsWritten i) s t ∧ ∀ x nn, i = .rnd x nn → t.draws = s.draws + 1
end

