-- ==== Sys2Proof/Laws/State.lean ====
section
/-! SUPPORT. One lemma per field per update of State, so that no later proof unfolds a record update. -/

namespace Sys2Proof.Machine

/-! ### `setReg` -/

@[simp] theorem State.setReg_v (s : State) (r : Reg) (b : Byte) : (s.setReg r b).v = s.v.set r.val b := rfl
@[simp] theorem State.setReg_i (s : State) (r : Reg) (b : Byte) : (s.setReg r b).i = s.i := rfl
@[simp] theorem State.setReg_stack (s : State) (r : Reg) (b : Byte) : (s.setReg r b).stack = s.stack := rfl
@[simp] theorem State.setReg_sp (s : State) (r : Reg) (b : Byte) : (s.setReg r b).sp = s.sp := rfl
@[simp] theorem State.setReg_dt (s : State) (r : Reg) (b : Byte) : (s.setReg r b).dt = s.dt := rfl
@[simp] theorem State.setReg_st (s : State) (r : Reg) (b : Byte) : (s.setReg r b).st = s.st := rfl
@[simp] theorem State.setReg_kbd (s : State) (r : Reg) (b : Byte) : (s.setReg r b).kbd = s.kbd := rfl
@[simp] theorem State.setReg_mode (s : State) (r : Reg) (b : Byte) : (s.setReg r b).mode = s.mode := rfl
@[simp] theorem State.setReg_ir (s : State) (r : Reg) (b : Byte) : (s.setReg r b).ir = s.ir := rfl
@[simp] theorem State.setReg_waitPending (s : State) (r : Reg) (b : Byte) : (s.setReg r b).waitPending = s.waitPending := rfl
@[simp] theorem State.setReg_waitReg (s : State) (r : Reg) (b : Byte) : (s.setReg r b).waitReg = s.waitReg := rfl
@[simp] theorem State.setReg_resumeMode (s : State) (r : Reg) (b : Byte) : (s.setReg r b).resumeMode = s.resumeMode := rfl
@[simp] theorem State.setReg_fault (s : State) (r : Reg) (b : Byte) : (s.setReg r b).fault = s.fault := rfl
@[simp] theorem State.setReg_faultAddr (s : State) (r : Reg) (b : Byte) : (s.setReg r b).faultAddr = s.faultAddr := rfl
@[simp] theorem State.setReg_inv (s : State) (r : Reg) (b : Byte) : (s.setReg r b).inv = s.inv := rfl
@[simp] theorem State.setReg_invWord (s : State) (r : Reg) (b : Byte) : (s.setReg r b).invWord = s.invWord := rfl
@[simp] theorem State.setReg_invAddr (s : State) (r : Reg) (b : Byte) : (s.setReg r b).invAddr = s.invAddr := rfl
@[simp] theorem State.setReg_mem (s : State) (r : Reg) (b : Byte) : (s.setReg r b).mem = s.mem := rfl
@[simp] theorem State.setReg_fb (s : State) (r : Reg) (b : Byte) : (s.setReg r b).fb = s.fb := rfl
@[simp] theorem State.setReg_inbox (s : State) (r : Reg) (b : Byte) : (s.setReg r b).inbox = s.inbox := rfl
@[simp] theorem State.setReg_draws (s : State) (r : Reg) (b : Byte) : (s.setReg r b).draws = s.draws := rfl

/-! ### `setRegs` -/

@[simp] theorem State.setRegs_v (s : State) (bs : List Byte) : (s.setRegs bs).v = regsWritten s.v 0 bs := rfl
@[simp] theorem State.setRegs_i (s : State) (bs : List Byte) : (s.setRegs bs).i = s.i := rfl
@[simp] theorem State.setRegs_stack (s : State) (bs : List Byte) : (s.setRegs bs).stack = s.stack := rfl
@[simp] theorem State.setRegs_sp (s : State) (bs : List Byte) : (s.setRegs bs).sp = s.sp := rfl
@[simp] theorem State.setRegs_dt (s : State) (bs : List Byte) : (s.setRegs bs).dt = s.dt := rfl
@[simp] theorem State.setRegs_st (s : State) (bs : List Byte) : (s.setRegs bs).st = s.st := rfl
@[simp] theorem State.setRegs_kbd (s : State) (bs : List Byte) : (s.setRegs bs).kbd = s.kbd := rfl
@[simp] theorem State.setRegs_mode (s : State) (bs : List Byte) : (s.setRegs bs).mode = s.mode := rfl
@[simp] theorem State.setRegs_ir (s : State) (bs : List Byte) : (s.setRegs bs).ir = s.ir := rfl
@[simp] theorem State.setRegs_waitPending (s : State) (bs : List Byte) : (s.setRegs bs).waitPending = s.waitPending := rfl
@[simp] theorem State.setRegs_waitReg (s : State) (bs : List Byte) : (s.setRegs bs).waitReg = s.waitReg := rfl
@[simp] theorem State.setRegs_resumeMode (s : State) (bs : List Byte) : (s.setRegs bs).resumeMode = s.resumeMode := rfl
@[simp] theorem State.setRegs_fault (s : State) (bs : List Byte) : (s.setRegs bs).fault = s.fault := rfl
@[simp] theorem State.setRegs_faultAddr (s : State) (bs : List Byte) : (s.setRegs bs).faultAddr = s.faultAddr := rfl
@[simp] theorem State.setRegs_inv (s : State) (bs : List Byte) : (s.setRegs bs).inv = s.inv := rfl
@[simp] theorem State.setRegs_invWord (s : State) (bs : List Byte) : (s.setRegs bs).invWord = s.invWord := rfl
@[simp] theorem State.setRegs_invAddr (s : State) (bs : List Byte) : (s.setRegs bs).invAddr = s.invAddr := rfl
@[simp] theorem State.setRegs_mem (s : State) (bs : List Byte) : (s.setRegs bs).mem = s.mem := rfl
@[simp] theorem State.setRegs_fb (s : State) (bs : List Byte) : (s.setRegs bs).fb = s.fb := rfl
@[simp] theorem State.setRegs_inbox (s : State) (bs : List Byte) : (s.setRegs bs).inbox = s.inbox := rfl
@[simp] theorem State.setRegs_draws (s : State) (bs : List Byte) : (s.setRegs bs).draws = s.draws := rfl

/-! ### `setIndex` -/

@[simp] theorem State.setIndex_v (s : State) (a : Addr) : (s.setIndex a).v = s.v := rfl
@[simp] theorem State.setIndex_i (s : State) (a : Addr) : (s.setIndex a).i = a.setWidth 16 := rfl
@[simp] theorem State.setIndex_stack (s : State) (a : Addr) : (s.setIndex a).stack = s.stack := rfl
@[simp] theorem State.setIndex_sp (s : State) (a : Addr) : (s.setIndex a).sp = s.sp := rfl
@[simp] theorem State.setIndex_dt (s : State) (a : Addr) : (s.setIndex a).dt = s.dt := rfl
@[simp] theorem State.setIndex_st (s : State) (a : Addr) : (s.setIndex a).st = s.st := rfl
@[simp] theorem State.setIndex_kbd (s : State) (a : Addr) : (s.setIndex a).kbd = s.kbd := rfl
@[simp] theorem State.setIndex_mode (s : State) (a : Addr) : (s.setIndex a).mode = s.mode := rfl
@[simp] theorem State.setIndex_ir (s : State) (a : Addr) : (s.setIndex a).ir = s.ir := rfl
@[simp] theorem State.setIndex_waitPending (s : State) (a : Addr) : (s.setIndex a).waitPending = s.waitPending := rfl
@[simp] theorem State.setIndex_waitReg (s : State) (a : Addr) : (s.setIndex a).waitReg = s.waitReg := rfl
@[simp] theorem State.setIndex_resumeMode (s : State) (a : Addr) : (s.setIndex a).resumeMode = s.resumeMode := rfl
@[simp] theorem State.setIndex_fault (s : State) (a : Addr) : (s.setIndex a).fault = s.fault := rfl
@[simp] theorem State.setIndex_faultAddr (s : State) (a : Addr) : (s.setIndex a).faultAddr = s.faultAddr := rfl
@[simp] theorem State.setIndex_inv (s : State) (a : Addr) : (s.setIndex a).inv = s.inv := rfl
@[simp] theorem State.setIndex_invWord (s : State) (a : Addr) : (s.setIndex a).invWord = s.invWord := rfl
@[simp] theorem State.setIndex_invAddr (s : State) (a : Addr) : (s.setIndex a).invAddr = s.invAddr := rfl
@[simp] theorem State.setIndex_mem (s : State) (a : Addr) : (s.setIndex a).mem = s.mem := rfl
@[simp] theorem State.setIndex_fb (s : State) (a : Addr) : (s.setIndex a).fb = s.fb := rfl
@[simp] theorem State.setIndex_inbox (s : State) (a : Addr) : (s.setIndex a).inbox = s.inbox := rfl
@[simp] theorem State.setIndex_draws (s : State) (a : Addr) : (s.setIndex a).draws = s.draws := rfl

/-! ### `setDt` -/

@[simp] theorem State.setDt_v (s : State) (b : Byte) : (s.setDt b).v = s.v := rfl
@[simp] theorem State.setDt_i (s : State) (b : Byte) : (s.setDt b).i = s.i := rfl
@[simp] theorem State.setDt_stack (s : State) (b : Byte) : (s.setDt b).stack = s.stack := rfl
@[simp] theorem State.setDt_sp (s : State) (b : Byte) : (s.setDt b).sp = s.sp := rfl
@[simp] theorem State.setDt_dt (s : State) (b : Byte) : (s.setDt b).dt = b := rfl
@[simp] theorem State.setDt_st (s : State) (b : Byte) : (s.setDt b).st = s.st := rfl
@[simp] theorem State.setDt_kbd (s : State) (b : Byte) : (s.setDt b).kbd = s.kbd := rfl
@[simp] theorem State.setDt_mode (s : State) (b : Byte) : (s.setDt b).mode = s.mode := rfl
@[simp] theorem State.setDt_ir (s : State) (b : Byte) : (s.setDt b).ir = s.ir := rfl
@[simp] theorem State.setDt_waitPending (s : State) (b : Byte) : (s.setDt b).waitPending = s.waitPending := rfl
@[simp] theorem State.setDt_waitReg (s : State) (b : Byte) : (s.setDt b).waitReg = s.waitReg := rfl
@[simp] theorem State.setDt_resumeMode (s : State) (b : Byte) : (s.setDt b).resumeMode = s.resumeMode := rfl
@[simp] theorem State.setDt_fault (s : State) (b : Byte) : (s.setDt b).fault = s.fault := rfl
@[simp] theorem State.setDt_faultAddr (s : State) (b : Byte) : (s.setDt b).faultAddr = s.faultAddr := rfl
@[simp] theorem State.setDt_inv (s : State) (b : Byte) : (s.setDt b).inv = s.inv := rfl
@[simp] theorem State.setDt_invWord (s : State) (b : Byte) : (s.setDt b).invWord = s.invWord := rfl
@[simp] theorem State.setDt_invAddr (s : State) (b : Byte) : (s.setDt b).invAddr = s.invAddr := rfl
@[simp] theorem State.setDt_mem (s : State) (b : Byte) : (s.setDt b).mem = s.mem := rfl
@[simp] theorem State.setDt_fb (s : State) (b : Byte) : (s.setDt b).fb = s.fb := rfl
@[simp] theorem State.setDt_inbox (s : State) (b : Byte) : (s.setDt b).inbox = s.inbox := rfl
@[simp] theorem State.setDt_draws (s : State) (b : Byte) : (s.setDt b).draws = s.draws := rfl

/-! ### `setSt` -/

@[simp] theorem State.setSt_v (s : State) (b : Byte) : (s.setSt b).v = s.v := rfl
@[simp] theorem State.setSt_i (s : State) (b : Byte) : (s.setSt b).i = s.i := rfl
@[simp] theorem State.setSt_stack (s : State) (b : Byte) : (s.setSt b).stack = s.stack := rfl
@[simp] theorem State.setSt_sp (s : State) (b : Byte) : (s.setSt b).sp = s.sp := rfl
@[simp] theorem State.setSt_dt (s : State) (b : Byte) : (s.setSt b).dt = s.dt := rfl
@[simp] theorem State.setSt_st (s : State) (b : Byte) : (s.setSt b).st = b := rfl
@[simp] theorem State.setSt_kbd (s : State) (b : Byte) : (s.setSt b).kbd = s.kbd := rfl
@[simp] theorem State.setSt_mode (s : State) (b : Byte) : (s.setSt b).mode = s.mode := rfl
@[simp] theorem State.setSt_ir (s : State) (b : Byte) : (s.setSt b).ir = s.ir := rfl
@[simp] theorem State.setSt_waitPending (s : State) (b : Byte) : (s.setSt b).waitPending = s.waitPending := rfl
@[simp] theorem State.setSt_waitReg (s : State) (b : Byte) : (s.setSt b).waitReg = s.waitReg := rfl
@[simp] theorem State.setSt_resumeMode (s : State) (b : Byte) : (s.setSt b).resumeMode = s.resumeMode := rfl
@[simp] theorem State.setSt_fault (s : State) (b : Byte) : (s.setSt b).fault = s.fault := rfl
@[simp] theorem State.setSt_faultAddr (s : State) (b : Byte) : (s.setSt b).faultAddr = s.faultAddr := rfl
@[simp] theorem State.setSt_inv (s : State) (b : Byte) : (s.setSt b).inv = s.inv := rfl
@[simp] theorem State.setSt_invWord (s : State) (b : Byte) : (s.setSt b).invWord = s.invWord := rfl
@[simp] theorem State.setSt_invAddr (s : State) (b : Byte) : (s.setSt b).invAddr = s.invAddr := rfl
@[simp] theorem State.setSt_mem (s : State) (b : Byte) : (s.setSt b).mem = s.mem := rfl
@[simp] theorem State.setSt_fb (s : State) (b : Byte) : (s.setSt b).fb = s.fb := rfl
@[simp] theorem State.setSt_inbox (s : State) (b : Byte) : (s.setSt b).inbox = s.inbox := rfl
@[simp] theorem State.setSt_draws (s : State) (b : Byte) : (s.setSt b).draws = s.draws := rfl

/-! ### `setKbd` -/

@[simp] theorem State.setKbd_v (s : State) (k : Option Nibble) : (s.setKbd k).v = s.v := rfl
@[simp] theorem State.setKbd_i (s : State) (k : Option Nibble) : (s.setKbd k).i = s.i := rfl
@[simp] theorem State.setKbd_stack (s : State) (k : Option Nibble) : (s.setKbd k).stack = s.stack := rfl
@[simp] theorem State.setKbd_sp (s : State) (k : Option Nibble) : (s.setKbd k).sp = s.sp := rfl
@[simp] theorem State.setKbd_dt (s : State) (k : Option Nibble) : (s.setKbd k).dt = s.dt := rfl
@[simp] theorem State.setKbd_st (s : State) (k : Option Nibble) : (s.setKbd k).st = s.st := rfl
@[simp] theorem State.setKbd_kbd (s : State) (k : Option Nibble) : (s.setKbd k).kbd = k := rfl
@[simp] theorem State.setKbd_mode (s : State) (k : Option Nibble) : (s.setKbd k).mode = s.mode := rfl
@[simp] theorem State.setKbd_ir (s : State) (k : Option Nibble) : (s.setKbd k).ir = s.ir := rfl
@[simp] theorem State.setKbd_waitPending (s : State) (k : Option Nibble) : (s.setKbd k).waitPending = s.waitPending := rfl
@[simp] theorem State.setKbd_waitReg (s : State) (k : Option Nibble) : (s.setKbd k).waitReg = s.waitReg := rfl
@[simp] theorem State.setKbd_resumeMode (s : State) (k : Option Nibble) : (s.setKbd k).resumeMode = s.resumeMode := rfl
@[simp] theorem State.setKbd_fault (s : State) (k : Option Nibble) : (s.setKbd k).fault = s.fault := rfl
@[simp] theorem State.setKbd_faultAddr (s : State) (k : Option Nibble) : (s.setKbd k).faultAddr = s.faultAddr := rfl
@[simp] theorem State.setKbd_inv (s : State) (k : Option Nibble) : (s.setKbd k).inv = s.inv := rfl
@[simp] theorem State.setKbd_invWord (s : State) (k : Option Nibble) : (s.setKbd k).invWord = s.invWord := rfl
@[simp] theorem State.setKbd_invAddr (s : State) (k : Option Nibble) : (s.setKbd k).invAddr = s.invAddr := rfl
@[simp] theorem State.setKbd_mem (s : State) (k : Option Nibble) : (s.setKbd k).mem = s.mem := rfl
@[simp] theorem State.setKbd_fb (s : State) (k : Option Nibble) : (s.setKbd k).fb = s.fb := rfl
@[simp] theorem State.setKbd_inbox (s : State) (k : Option Nibble) : (s.setKbd k).inbox = s.inbox := rfl
@[simp] theorem State.setKbd_draws (s : State) (k : Option Nibble) : (s.setKbd k).draws = s.draws := rfl

/-! ### `setMode` -/

@[simp] theorem State.setMode_v (s : State) (m : Mode) : (s.setMode m).v = s.v := rfl
@[simp] theorem State.setMode_i (s : State) (m : Mode) : (s.setMode m).i = s.i := rfl
@[simp] theorem State.setMode_stack (s : State) (m : Mode) : (s.setMode m).stack = s.stack := rfl
@[simp] theorem State.setMode_sp (s : State) (m : Mode) : (s.setMode m).sp = s.sp := rfl
@[simp] theorem State.setMode_dt (s : State) (m : Mode) : (s.setMode m).dt = s.dt := rfl
@[simp] theorem State.setMode_st (s : State) (m : Mode) : (s.setMode m).st = s.st := rfl
@[simp] theorem State.setMode_kbd (s : State) (m : Mode) : (s.setMode m).kbd = s.kbd := rfl
@[simp] theorem State.setMode_mode (s : State) (m : Mode) : (s.setMode m).mode = m := rfl
@[simp] theorem State.setMode_ir (s : State) (m : Mode) : (s.setMode m).ir = s.ir := rfl
@[simp] theorem State.setMode_waitPending (s : State) (m : Mode) : (s.setMode m).waitPending = s.waitPending := rfl
@[simp] theorem State.setMode_waitReg (s : State) (m : Mode) : (s.setMode m).waitReg = s.waitReg := rfl
@[simp] theorem State.setMode_resumeMode (s : State) (m : Mode) : (s.setMode m).resumeMode = s.resumeMode := rfl
@[simp] theorem State.setMode_fault (s : State) (m : Mode) : (s.setMode m).fault = s.fault := rfl
@[simp] theorem State.setMode_faultAddr (s : State) (m : Mode) : (s.setMode m).faultAddr = s.faultAddr := rfl
@[simp] theorem State.setMode_inv (s : State) (m : Mode) : (s.setMode m).inv = s.inv := rfl
@[simp] theorem State.setMode_invWord (s : State) (m : Mode) : (s.setMode m).invWord = s.invWord := rfl
@[simp] theorem State.setMode_invAddr (s : State) (m : Mode) : (s.setMode m).invAddr = s.invAddr := rfl
@[simp] theorem State.setMode_mem (s : State) (m : Mode) : (s.setMode m).mem = s.mem := rfl
@[simp] theorem State.setMode_fb (s : State) (m : Mode) : (s.setMode m).fb = s.fb := rfl
@[simp] theorem State.setMode_inbox (s : State) (m : Mode) : (s.setMode m).inbox = s.inbox := rfl
@[simp] theorem State.setMode_draws (s : State) (m : Mode) : (s.setMode m).draws = s.draws := rfl

/-! ### `setMem` -/

@[simp] theorem State.setMem_v (s : State) (m : Memory) : (s.setMem m).v = s.v := rfl
@[simp] theorem State.setMem_i (s : State) (m : Memory) : (s.setMem m).i = s.i := rfl
@[simp] theorem State.setMem_stack (s : State) (m : Memory) : (s.setMem m).stack = s.stack := rfl
@[simp] theorem State.setMem_sp (s : State) (m : Memory) : (s.setMem m).sp = s.sp := rfl
@[simp] theorem State.setMem_dt (s : State) (m : Memory) : (s.setMem m).dt = s.dt := rfl
@[simp] theorem State.setMem_st (s : State) (m : Memory) : (s.setMem m).st = s.st := rfl
@[simp] theorem State.setMem_kbd (s : State) (m : Memory) : (s.setMem m).kbd = s.kbd := rfl
@[simp] theorem State.setMem_mode (s : State) (m : Memory) : (s.setMem m).mode = s.mode := rfl
@[simp] theorem State.setMem_ir (s : State) (m : Memory) : (s.setMem m).ir = s.ir := rfl
@[simp] theorem State.setMem_waitPending (s : State) (m : Memory) : (s.setMem m).waitPending = s.waitPending := rfl
@[simp] theorem State.setMem_waitReg (s : State) (m : Memory) : (s.setMem m).waitReg = s.waitReg := rfl
@[simp] theorem State.setMem_resumeMode (s : State) (m : Memory) : (s.setMem m).resumeMode = s.resumeMode := rfl
@[simp] theorem State.setMem_fault (s : State) (m : Memory) : (s.setMem m).fault = s.fault := rfl
@[simp] theorem State.setMem_faultAddr (s : State) (m : Memory) : (s.setMem m).faultAddr = s.faultAddr := rfl
@[simp] theorem State.setMem_inv (s : State) (m : Memory) : (s.setMem m).inv = s.inv := rfl
@[simp] theorem State.setMem_invWord (s : State) (m : Memory) : (s.setMem m).invWord = s.invWord := rfl
@[simp] theorem State.setMem_invAddr (s : State) (m : Memory) : (s.setMem m).invAddr = s.invAddr := rfl
@[simp] theorem State.setMem_mem (s : State) (m : Memory) : (s.setMem m).mem = m := rfl
@[simp] theorem State.setMem_fb (s : State) (m : Memory) : (s.setMem m).fb = s.fb := rfl
@[simp] theorem State.setMem_inbox (s : State) (m : Memory) : (s.setMem m).inbox = s.inbox := rfl
@[simp] theorem State.setMem_draws (s : State) (m : Memory) : (s.setMem m).draws = s.draws := rfl

/-! ### `setFb` -/

@[simp] theorem State.setFb_v (s : State) (f : Vector Scanline 32) : (s.setFb f).v = s.v := rfl
@[simp] theorem State.setFb_i (s : State) (f : Vector Scanline 32) : (s.setFb f).i = s.i := rfl
@[simp] theorem State.setFb_stack (s : State) (f : Vector Scanline 32) : (s.setFb f).stack = s.stack := rfl
@[simp] theorem State.setFb_sp (s : State) (f : Vector Scanline 32) : (s.setFb f).sp = s.sp := rfl
@[simp] theorem State.setFb_dt (s : State) (f : Vector Scanline 32) : (s.setFb f).dt = s.dt := rfl
@[simp] theorem State.setFb_st (s : State) (f : Vector Scanline 32) : (s.setFb f).st = s.st := rfl
@[simp] theorem State.setFb_kbd (s : State) (f : Vector Scanline 32) : (s.setFb f).kbd = s.kbd := rfl
@[simp] theorem State.setFb_mode (s : State) (f : Vector Scanline 32) : (s.setFb f).mode = s.mode := rfl
@[simp] theorem State.setFb_ir (s : State) (f : Vector Scanline 32) : (s.setFb f).ir = s.ir := rfl
@[simp] theorem State.setFb_waitPending (s : State) (f : Vector Scanline 32) : (s.setFb f).waitPending = s.waitPending := rfl
@[simp] theorem State.setFb_waitReg (s : State) (f : Vector Scanline 32) : (s.setFb f).waitReg = s.waitReg := rfl
@[simp] theorem State.setFb_resumeMode (s : State) (f : Vector Scanline 32) : (s.setFb f).resumeMode = s.resumeMode := rfl
@[simp] theorem State.setFb_fault (s : State) (f : Vector Scanline 32) : (s.setFb f).fault = s.fault := rfl
@[simp] theorem State.setFb_faultAddr (s : State) (f : Vector Scanline 32) : (s.setFb f).faultAddr = s.faultAddr := rfl
@[simp] theorem State.setFb_inv (s : State) (f : Vector Scanline 32) : (s.setFb f).inv = s.inv := rfl
@[simp] theorem State.setFb_invWord (s : State) (f : Vector Scanline 32) : (s.setFb f).invWord = s.invWord := rfl
@[simp] theorem State.setFb_invAddr (s : State) (f : Vector Scanline 32) : (s.setFb f).invAddr = s.invAddr := rfl
@[simp] theorem State.setFb_mem (s : State) (f : Vector Scanline 32) : (s.setFb f).mem = s.mem := rfl
@[simp] theorem State.setFb_fb (s : State) (f : Vector Scanline 32) : (s.setFb f).fb = f := rfl
@[simp] theorem State.setFb_inbox (s : State) (f : Vector Scanline 32) : (s.setFb f).inbox = s.inbox := rfl
@[simp] theorem State.setFb_draws (s : State) (f : Vector Scanline 32) : (s.setFb f).draws = s.draws := rfl

/-! ### `consumeDraw` -/

@[simp] theorem State.consumeDraw_v (s : State) : (s.consumeDraw).v = s.v := rfl
@[simp] theorem State.consumeDraw_i (s : State) : (s.consumeDraw).i = s.i := rfl
@[simp] theorem State.consumeDraw_stack (s : State) : (s.consumeDraw).stack = s.stack := rfl
@[simp] theorem State.consumeDraw_sp (s : State) : (s.consumeDraw).sp = s.sp := rfl
@[simp] theorem State.consumeDraw_dt (s : State) : (s.consumeDraw).dt = s.dt := rfl
@[simp] theorem State.consumeDraw_st (s : State) : (s.consumeDraw).st = s.st := rfl
@[simp] theorem State.consumeDraw_kbd (s : State) : (s.consumeDraw).kbd = s.kbd := rfl
@[simp] theorem State.consumeDraw_mode (s : State) : (s.consumeDraw).mode = s.mode := rfl
@[simp] theorem State.consumeDraw_ir (s : State) : (s.consumeDraw).ir = s.ir := rfl
@[simp] theorem State.consumeDraw_waitPending (s : State) : (s.consumeDraw).waitPending = s.waitPending := rfl
@[simp] theorem State.consumeDraw_waitReg (s : State) : (s.consumeDraw).waitReg = s.waitReg := rfl
@[simp] theorem State.consumeDraw_resumeMode (s : State) : (s.consumeDraw).resumeMode = s.resumeMode := rfl
@[simp] theorem State.consumeDraw_fault (s : State) : (s.consumeDraw).fault = s.fault := rfl
@[simp] theorem State.consumeDraw_faultAddr (s : State) : (s.consumeDraw).faultAddr = s.faultAddr := rfl
@[simp] theorem State.consumeDraw_inv (s : State) : (s.consumeDraw).inv = s.inv := rfl
@[simp] theorem State.consumeDraw_invWord (s : State) : (s.consumeDraw).invWord = s.invWord := rfl
@[simp] theorem State.consumeDraw_invAddr (s : State) : (s.consumeDraw).invAddr = s.invAddr := rfl
@[simp] theorem State.consumeDraw_mem (s : State) : (s.consumeDraw).mem = s.mem := rfl
@[simp] theorem State.consumeDraw_fb (s : State) : (s.consumeDraw).fb = s.fb := rfl
@[simp] theorem State.consumeDraw_inbox (s : State) : (s.consumeDraw).inbox = s.inbox := rfl
@[simp] theorem State.consumeDraw_draws (s : State) : (s.consumeDraw).draws = s.draws + 1 := rfl

/-! ### `setPc` -/

@[simp] theorem State.setPc_v (s : State) (a : Addr) : (s.setPc a).v = s.v := rfl
@[simp] theorem State.setPc_i (s : State) (a : Addr) : (s.setPc a).i = s.i := rfl
@[simp] theorem State.setPc_stack (s : State) (a : Addr) : (s.setPc a).stack = s.stack.set s.sp.val a := rfl
@[simp] theorem State.setPc_sp (s : State) (a : Addr) : (s.setPc a).sp = s.sp := rfl
@[simp] theorem State.setPc_dt (s : State) (a : Addr) : (s.setPc a).dt = s.dt := rfl
@[simp] theorem State.setPc_st (s : State) (a : Addr) : (s.setPc a).st = s.st := rfl
@[simp] theorem State.setPc_kbd (s : State) (a : Addr) : (s.setPc a).kbd = s.kbd := rfl
@[simp] theorem State.setPc_mode (s : State) (a : Addr) : (s.setPc a).mode = s.mode := rfl
@[simp] theorem State.setPc_ir (s : State) (a : Addr) : (s.setPc a).ir = s.ir := rfl
@[simp] theorem State.setPc_waitPending (s : State) (a : Addr) : (s.setPc a).waitPending = s.waitPending := rfl
@[simp] theorem State.setPc_waitReg (s : State) (a : Addr) : (s.setPc a).waitReg = s.waitReg := rfl
@[simp] theorem State.setPc_resumeMode (s : State) (a : Addr) : (s.setPc a).resumeMode = s.resumeMode := rfl
@[simp] theorem State.setPc_fault (s : State) (a : Addr) : (s.setPc a).fault = s.fault := rfl
@[simp] theorem State.setPc_faultAddr (s : State) (a : Addr) : (s.setPc a).faultAddr = s.faultAddr := rfl
@[simp] theorem State.setPc_inv (s : State) (a : Addr) : (s.setPc a).inv = s.inv := rfl
@[simp] theorem State.setPc_invWord (s : State) (a : Addr) : (s.setPc a).invWord = s.invWord := rfl
@[simp] theorem State.setPc_invAddr (s : State) (a : Addr) : (s.setPc a).invAddr = s.invAddr := rfl
@[simp] theorem State.setPc_mem (s : State) (a : Addr) : (s.setPc a).mem = s.mem := rfl
@[simp] theorem State.setPc_fb (s : State) (a : Addr) : (s.setPc a).fb = s.fb := rfl
@[simp] theorem State.setPc_inbox (s : State) (a : Addr) : (s.setPc a).inbox = s.inbox := rfl
@[simp] theorem State.setPc_draws (s : State) (a : Addr) : (s.setPc a).draws = s.draws := rfl

/-! ### `advance` -/

@[simp] theorem State.advance_v (s : State) : (s.advance).v = s.v := rfl
@[simp] theorem State.advance_i (s : State) : (s.advance).i = s.i := rfl
@[simp] theorem State.advance_stack (s : State) : (s.advance).stack = s.stack.set s.sp.val (s.pc + 2#12) := rfl
@[simp] theorem State.advance_sp (s : State) : (s.advance).sp = s.sp := rfl
@[simp] theorem State.advance_dt (s : State) : (s.advance).dt = s.dt := rfl
@[simp] theorem State.advance_st (s : State) : (s.advance).st = s.st := rfl
@[simp] theorem State.advance_kbd (s : State) : (s.advance).kbd = s.kbd := rfl
@[simp] theorem State.advance_mode (s : State) : (s.advance).mode = s.mode := rfl
@[simp] theorem State.advance_ir (s : State) : (s.advance).ir = s.ir := rfl
@[simp] theorem State.advance_waitPending (s : State) : (s.advance).waitPending = s.waitPending := rfl
@[simp] theorem State.advance_waitReg (s : State) : (s.advance).waitReg = s.waitReg := rfl
@[simp] theorem State.advance_resumeMode (s : State) : (s.advance).resumeMode = s.resumeMode := rfl
@[simp] theorem State.advance_fault (s : State) : (s.advance).fault = s.fault := rfl
@[simp] theorem State.advance_faultAddr (s : State) : (s.advance).faultAddr = s.faultAddr := rfl
@[simp] theorem State.advance_inv (s : State) : (s.advance).inv = s.inv := rfl
@[simp] theorem State.advance_invWord (s : State) : (s.advance).invWord = s.invWord := rfl
@[simp] theorem State.advance_invAddr (s : State) : (s.advance).invAddr = s.invAddr := rfl
@[simp] theorem State.advance_mem (s : State) : (s.advance).mem = s.mem := rfl
@[simp] theorem State.advance_fb (s : State) : (s.advance).fb = s.fb := rfl
@[simp] theorem State.advance_inbox (s : State) : (s.advance).inbox = s.inbox := rfl
@[simp] theorem State.advance_draws (s : State) : (s.advance).draws = s.draws := rfl

/-! ### `pushFrame` -/

@[simp] theorem State.pushFrame_v (s : State) (a : Addr) : (s.pushFrame a).v = s.v := rfl
@[simp] theorem State.pushFrame_i (s : State) (a : Addr) : (s.pushFrame a).i = s.i := rfl
@[simp] theorem State.pushFrame_stack (s : State) (a : Addr) : (s.pushFrame a).stack = s.stack.set (s.sp + 1 : Fin 16).val a := rfl
@[simp] theorem State.pushFrame_sp (s : State) (a : Addr) : (s.pushFrame a).sp = s.sp + 1 := rfl
@[simp] theorem State.pushFrame_dt (s : State) (a : Addr) : (s.pushFrame a).dt = s.dt := rfl
@[simp] theorem State.pushFrame_st (s : State) (a : Addr) : (s.pushFrame a).st = s.st := rfl
@[simp] theorem State.pushFrame_kbd (s : State) (a : Addr) : (s.pushFrame a).kbd = s.kbd := rfl
@[simp] theorem State.pushFrame_mode (s : State) (a : Addr) : (s.pushFrame a).mode = s.mode := rfl
@[simp] theorem State.pushFrame_ir (s : State) (a : Addr) : (s.pushFrame a).ir = s.ir := rfl
@[simp] theorem State.pushFrame_waitPending (s : State) (a : Addr) : (s.pushFrame a).waitPending = s.waitPending := rfl
@[simp] theorem State.pushFrame_waitReg (s : State) (a : Addr) : (s.pushFrame a).waitReg = s.waitReg := rfl
@[simp] theorem State.pushFrame_resumeMode (s : State) (a : Addr) : (s.pushFrame a).resumeMode = s.resumeMode := rfl
@[simp] theorem State.pushFrame_fault (s : State) (a : Addr) : (s.pushFrame a).fault = s.fault := rfl
@[simp] theorem State.pushFrame_faultAddr (s : State) (a : Addr) : (s.pushFrame a).faultAddr = s.faultAddr := rfl
@[simp] theorem State.pushFrame_inv (s : State) (a : Addr) : (s.pushFrame a).inv = s.inv := rfl
@[simp] theorem State.pushFrame_invWord (s : State) (a : Addr) : (s.pushFrame a).invWord = s.invWord := rfl
@[simp] theorem State.pushFrame_invAddr (s : State) (a : Addr) : (s.pushFrame a).invAddr = s.invAddr := rfl
@[simp] theorem State.pushFrame_mem (s : State) (a : Addr) : (s.pushFrame a).mem = s.mem := rfl
@[simp] theorem State.pushFrame_fb (s : State) (a : Addr) : (s.pushFrame a).fb = s.fb := rfl
@[simp] theorem State.pushFrame_inbox (s : State) (a : Addr) : (s.pushFrame a).inbox = s.inbox := rfl
@[simp] theorem State.pushFrame_draws (s : State) (a : Addr) : (s.pushFrame a).draws = s.draws := rfl

/-! ### `popFrame` -/

@[simp] theorem State.popFrame_v (s : State) : (s.popFrame).v = s.v := rfl
@[simp] theorem State.popFrame_i (s : State) : (s.popFrame).i = s.i := rfl
@[simp] theorem State.popFrame_stack (s : State) : (s.popFrame).stack = s.stack := rfl
@[simp] theorem State.popFrame_sp (s : State) : (s.popFrame).sp = s.sp - 1 := rfl
@[simp] theorem State.popFrame_dt (s : State) : (s.popFrame).dt = s.dt := rfl
@[simp] theorem State.popFrame_st (s : State) : (s.popFrame).st = s.st := rfl
@[simp] theorem State.popFrame_kbd (s : State) : (s.popFrame).kbd = s.kbd := rfl
@[simp] theorem State.popFrame_mode (s : State) : (s.popFrame).mode = s.mode := rfl
@[simp] theorem State.popFrame_ir (s : State) : (s.popFrame).ir = s.ir := rfl
@[simp] theorem State.popFrame_waitPending (s : State) : (s.popFrame).waitPending = s.waitPending := rfl
@[simp] theorem State.popFrame_waitReg (s : State) : (s.popFrame).waitReg = s.waitReg := rfl
@[simp] theorem State.popFrame_resumeMode (s : State) : (s.popFrame).resumeMode = s.resumeMode := rfl
@[simp] theorem State.popFrame_fault (s : State) : (s.popFrame).fault = s.fault := rfl
@[simp] theorem State.popFrame_faultAddr (s : State) : (s.popFrame).faultAddr = s.faultAddr := rfl
@[simp] theorem State.popFrame_inv (s : State) : (s.popFrame).inv = s.inv := rfl
@[simp] theorem State.popFrame_invWord (s : State) : (s.popFrame).invWord = s.invWord := rfl
@[simp] theorem State.popFrame_invAddr (s : State) : (s.popFrame).invAddr = s.invAddr := rfl
@[simp] theorem State.popFrame_mem (s : State) : (s.popFrame).mem = s.mem := rfl
@[simp] theorem State.popFrame_fb (s : State) : (s.popFrame).fb = s.fb := rfl
@[simp] theorem State.popFrame_inbox (s : State) : (s.popFrame).inbox = s.inbox := rfl
@[simp] theorem State.popFrame_draws (s : State) : (s.popFrame).draws = s.draws := rfl

/-! ### `raise` -/

@[simp] theorem State.raise_v (s : State) (f : FatalFault) : (s.raise f).v = s.v := rfl
@[simp] theorem State.raise_i (s : State) (f : FatalFault) : (s.raise f).i = s.i := rfl
@[simp] theorem State.raise_stack (s : State) (f : FatalFault) : (s.raise f).stack = s.stack := rfl
@[simp] theorem State.raise_sp (s : State) (f : FatalFault) : (s.raise f).sp = s.sp := rfl
@[simp] theorem State.raise_dt (s : State) (f : FatalFault) : (s.raise f).dt = s.dt := rfl
@[simp] theorem State.raise_st (s : State) (f : FatalFault) : (s.raise f).st = s.st := rfl
@[simp] theorem State.raise_kbd (s : State) (f : FatalFault) : (s.raise f).kbd = s.kbd := rfl
@[simp] theorem State.raise_mode (s : State) (f : FatalFault) : (s.raise f).mode = s.mode := rfl
@[simp] theorem State.raise_ir (s : State) (f : FatalFault) : (s.raise f).ir = s.ir := rfl
@[simp] theorem State.raise_waitPending (s : State) (f : FatalFault) : (s.raise f).waitPending = s.waitPending := rfl
@[simp] theorem State.raise_waitReg (s : State) (f : FatalFault) : (s.raise f).waitReg = s.waitReg := rfl
@[simp] theorem State.raise_resumeMode (s : State) (f : FatalFault) : (s.raise f).resumeMode = s.resumeMode := rfl
@[simp] theorem State.raise_fault (s : State) (f : FatalFault) : (s.raise f).fault = some f := rfl
@[simp] theorem State.raise_faultAddr (s : State) (f : FatalFault) : (s.raise f).faultAddr = s.pc := rfl
@[simp] theorem State.raise_inv (s : State) (f : FatalFault) : (s.raise f).inv = s.inv := rfl
@[simp] theorem State.raise_invWord (s : State) (f : FatalFault) : (s.raise f).invWord = s.invWord := rfl
@[simp] theorem State.raise_invAddr (s : State) (f : FatalFault) : (s.raise f).invAddr = s.invAddr := rfl
@[simp] theorem State.raise_mem (s : State) (f : FatalFault) : (s.raise f).mem = s.mem := rfl
@[simp] theorem State.raise_fb (s : State) (f : FatalFault) : (s.raise f).fb = s.fb := rfl
@[simp] theorem State.raise_inbox (s : State) (f : FatalFault) : (s.raise f).inbox = s.inbox := rfl
@[simp] theorem State.raise_draws (s : State) (f : FatalFault) : (s.raise f).draws = s.draws := rfl

/-! ### `latchInvalid` -/

@[simp] theorem State.latchInvalid_v (s : State) (w : Word) : (s.latchInvalid w).v = s.v := rfl
@[simp] theorem State.latchInvalid_i (s : State) (w : Word) : (s.latchInvalid w).i = s.i := rfl
@[simp] theorem State.latchInvalid_stack (s : State) (w : Word) : (s.latchInvalid w).stack = s.stack := rfl
@[simp] theorem State.latchInvalid_sp (s : State) (w : Word) : (s.latchInvalid w).sp = s.sp := rfl
@[simp] theorem State.latchInvalid_dt (s : State) (w : Word) : (s.latchInvalid w).dt = s.dt := rfl
@[simp] theorem State.latchInvalid_st (s : State) (w : Word) : (s.latchInvalid w).st = s.st := rfl
@[simp] theorem State.latchInvalid_kbd (s : State) (w : Word) : (s.latchInvalid w).kbd = s.kbd := rfl
@[simp] theorem State.latchInvalid_mode (s : State) (w : Word) : (s.latchInvalid w).mode = s.mode := rfl
@[simp] theorem State.latchInvalid_ir (s : State) (w : Word) : (s.latchInvalid w).ir = s.ir := rfl
@[simp] theorem State.latchInvalid_waitPending (s : State) (w : Word) : (s.latchInvalid w).waitPending = s.waitPending := rfl
@[simp] theorem State.latchInvalid_waitReg (s : State) (w : Word) : (s.latchInvalid w).waitReg = s.waitReg := rfl
@[simp] theorem State.latchInvalid_resumeMode (s : State) (w : Word) : (s.latchInvalid w).resumeMode = s.resumeMode := rfl
@[simp] theorem State.latchInvalid_fault (s : State) (w : Word) : (s.latchInvalid w).fault = s.fault := rfl
@[simp] theorem State.latchInvalid_faultAddr (s : State) (w : Word) : (s.latchInvalid w).faultAddr = s.faultAddr := rfl
@[simp] theorem State.latchInvalid_inv (s : State) (w : Word) : (s.latchInvalid w).inv = true := rfl
@[simp] theorem State.latchInvalid_invWord (s : State) (w : Word) : (s.latchInvalid w).invWord = w := rfl
@[simp] theorem State.latchInvalid_invAddr (s : State) (w : Word) : (s.latchInvalid w).invAddr = s.pc := rfl
@[simp] theorem State.latchInvalid_mem (s : State) (w : Word) : (s.latchInvalid w).mem = s.mem := rfl
@[simp] theorem State.latchInvalid_fb (s : State) (w : Word) : (s.latchInvalid w).fb = s.fb := rfl
@[simp] theorem State.latchInvalid_inbox (s : State) (w : Word) : (s.latchInvalid w).inbox = s.inbox := rfl
@[simp] theorem State.latchInvalid_draws (s : State) (w : Word) : (s.latchInvalid w).draws = s.draws := rfl

/-! ### `tick` -/

@[simp] theorem State.tick_v (s : State) : (s.tick).v = s.v := rfl
@[simp] theorem State.tick_i (s : State) : (s.tick).i = s.i := rfl
@[simp] theorem State.tick_stack (s : State) : (s.tick).stack = s.stack := rfl
@[simp] theorem State.tick_sp (s : State) : (s.tick).sp = s.sp := rfl
@[simp] theorem State.tick_dt (s : State) : (s.tick).dt = countDown s.dt := rfl
@[simp] theorem State.tick_st (s : State) : (s.tick).st = countDown s.st := rfl
@[simp] theorem State.tick_kbd (s : State) : (s.tick).kbd = s.kbd := rfl
@[simp] theorem State.tick_mode (s : State) : (s.tick).mode = s.mode := rfl
@[simp] theorem State.tick_ir (s : State) : (s.tick).ir = s.ir := rfl
@[simp] theorem State.tick_waitPending (s : State) : (s.tick).waitPending = s.waitPending := rfl
@[simp] theorem State.tick_waitReg (s : State) : (s.tick).waitReg = s.waitReg := rfl
@[simp] theorem State.tick_resumeMode (s : State) : (s.tick).resumeMode = s.resumeMode := rfl
@[simp] theorem State.tick_fault (s : State) : (s.tick).fault = s.fault := rfl
@[simp] theorem State.tick_faultAddr (s : State) : (s.tick).faultAddr = s.faultAddr := rfl
@[simp] theorem State.tick_inv (s : State) : (s.tick).inv = s.inv := rfl
@[simp] theorem State.tick_invWord (s : State) : (s.tick).invWord = s.invWord := rfl
@[simp] theorem State.tick_invAddr (s : State) : (s.tick).invAddr = s.invAddr := rfl
@[simp] theorem State.tick_mem (s : State) : (s.tick).mem = s.mem := rfl
@[simp] theorem State.tick_fb (s : State) : (s.tick).fb = s.fb := rfl
@[simp] theorem State.tick_inbox (s : State) : (s.tick).inbox = s.inbox := rfl
@[simp] theorem State.tick_draws (s : State) : (s.tick).draws = s.draws := rfl

/-! ### `beginInstr` -/

@[simp] theorem State.beginInstr_v (s : State) (w : Word) : (s.beginInstr w).v = s.v := rfl
@[simp] theorem State.beginInstr_i (s : State) (w : Word) : (s.beginInstr w).i = s.i := rfl
@[simp] theorem State.beginInstr_stack (s : State) (w : Word) : (s.beginInstr w).stack = s.stack := rfl
@[simp] theorem State.beginInstr_sp (s : State) (w : Word) : (s.beginInstr w).sp = s.sp := rfl
@[simp] theorem State.beginInstr_dt (s : State) (w : Word) : (s.beginInstr w).dt = s.dt := rfl
@[simp] theorem State.beginInstr_st (s : State) (w : Word) : (s.beginInstr w).st = s.st := rfl
@[simp] theorem State.beginInstr_kbd (s : State) (w : Word) : (s.beginInstr w).kbd = s.kbd := rfl
@[simp] theorem State.beginInstr_mode (s : State) (w : Word) : (s.beginInstr w).mode = .executing := rfl
@[simp] theorem State.beginInstr_ir (s : State) (w : Word) : (s.beginInstr w).ir = w := rfl
@[simp] theorem State.beginInstr_waitPending (s : State) (w : Word) : (s.beginInstr w).waitPending = s.waitPending := rfl
@[simp] theorem State.beginInstr_waitReg (s : State) (w : Word) : (s.beginInstr w).waitReg = s.waitReg := rfl
@[simp] theorem State.beginInstr_resumeMode (s : State) (w : Word) : (s.beginInstr w).resumeMode = s.resumeMode := rfl
@[simp] theorem State.beginInstr_fault (s : State) (w : Word) : (s.beginInstr w).fault = s.fault := rfl
@[simp] theorem State.beginInstr_faultAddr (s : State) (w : Word) : (s.beginInstr w).faultAddr = s.faultAddr := rfl
@[simp] theorem State.beginInstr_inv (s : State) (w : Word) : (s.beginInstr w).inv = s.inv := rfl
@[simp] theorem State.beginInstr_invWord (s : State) (w : Word) : (s.beginInstr w).invWord = s.invWord := rfl
@[simp] theorem State.beginInstr_invAddr (s : State) (w : Word) : (s.beginInstr w).invAddr = s.invAddr := rfl
@[simp] theorem State.beginInstr_mem (s : State) (w : Word) : (s.beginInstr w).mem = s.mem := rfl
@[simp] theorem State.beginInstr_fb (s : State) (w : Word) : (s.beginInstr w).fb = s.fb := rfl
@[simp] theorem State.beginInstr_inbox (s : State) (w : Word) : (s.beginInstr w).inbox = s.inbox := rfl
@[simp] theorem State.beginInstr_draws (s : State) (w : Word) : (s.beginInstr w).draws = s.draws := rfl

/-! ### `startWait` -/

@[simp] theorem State.startWait_v (s : State) (x : Reg) : (s.startWait x).v = s.v := rfl
@[simp] theorem State.startWait_i (s : State) (x : Reg) : (s.startWait x).i = s.i := rfl
@[simp] theorem State.startWait_stack (s : State) (x : Reg) : (s.startWait x).stack = s.stack := rfl
@[simp] theorem State.startWait_sp (s : State) (x : Reg) : (s.startWait x).sp = s.sp := rfl
@[simp] theorem State.startWait_dt (s : State) (x : Reg) : (s.startWait x).dt = s.dt := rfl
@[simp] theorem State.startWait_st (s : State) (x : Reg) : (s.startWait x).st = s.st := rfl
@[simp] theorem State.startWait_kbd (s : State) (x : Reg) : (s.startWait x).kbd = s.kbd := rfl
@[simp] theorem State.startWait_mode (s : State) (x : Reg) : (s.startWait x).mode = .waitingForKey := rfl
@[simp] theorem State.startWait_ir (s : State) (x : Reg) : (s.startWait x).ir = s.ir := rfl
@[simp] theorem State.startWait_waitPending (s : State) (x : Reg) : (s.startWait x).waitPending = s.kbd := rfl
@[simp] theorem State.startWait_waitReg (s : State) (x : Reg) : (s.startWait x).waitReg = x := rfl
@[simp] theorem State.startWait_resumeMode (s : State) (x : Reg) : (s.startWait x).resumeMode = s.resumeMode := rfl
@[simp] theorem State.startWait_fault (s : State) (x : Reg) : (s.startWait x).fault = s.fault := rfl
@[simp] theorem State.startWait_faultAddr (s : State) (x : Reg) : (s.startWait x).faultAddr = s.faultAddr := rfl
@[simp] theorem State.startWait_inv (s : State) (x : Reg) : (s.startWait x).inv = s.inv := rfl
@[simp] theorem State.startWait_invWord (s : State) (x : Reg) : (s.startWait x).invWord = s.invWord := rfl
@[simp] theorem State.startWait_invAddr (s : State) (x : Reg) : (s.startWait x).invAddr = s.invAddr := rfl
@[simp] theorem State.startWait_mem (s : State) (x : Reg) : (s.startWait x).mem = s.mem := rfl
@[simp] theorem State.startWait_fb (s : State) (x : Reg) : (s.startWait x).fb = s.fb := rfl
@[simp] theorem State.startWait_inbox (s : State) (x : Reg) : (s.startWait x).inbox = s.inbox := rfl
@[simp] theorem State.startWait_draws (s : State) (x : Reg) : (s.startWait x).draws = s.draws := rfl

/-! ### `endWait` -/

@[simp] theorem State.endWait_v (s : State) (k : Nibble) : (s.endWait k).v = s.v.set s.waitReg.val (k.setWidth 8) := rfl
@[simp] theorem State.endWait_i (s : State) (k : Nibble) : (s.endWait k).i = s.i := rfl
@[simp] theorem State.endWait_stack (s : State) (k : Nibble) : (s.endWait k).stack = s.stack := rfl
@[simp] theorem State.endWait_sp (s : State) (k : Nibble) : (s.endWait k).sp = s.sp := rfl
@[simp] theorem State.endWait_dt (s : State) (k : Nibble) : (s.endWait k).dt = s.dt := rfl
@[simp] theorem State.endWait_st (s : State) (k : Nibble) : (s.endWait k).st = s.st := rfl
@[simp] theorem State.endWait_kbd (s : State) (k : Nibble) : (s.endWait k).kbd = s.kbd := rfl
@[simp] theorem State.endWait_mode (s : State) (k : Nibble) : (s.endWait k).mode = .executing := rfl
@[simp] theorem State.endWait_ir (s : State) (k : Nibble) : (s.endWait k).ir = s.ir := rfl
@[simp] theorem State.endWait_waitPending (s : State) (k : Nibble) : (s.endWait k).waitPending = some k := rfl
@[simp] theorem State.endWait_waitReg (s : State) (k : Nibble) : (s.endWait k).waitReg = s.waitReg := rfl
@[simp] theorem State.endWait_resumeMode (s : State) (k : Nibble) : (s.endWait k).resumeMode = s.resumeMode := rfl
@[simp] theorem State.endWait_fault (s : State) (k : Nibble) : (s.endWait k).fault = s.fault := rfl
@[simp] theorem State.endWait_faultAddr (s : State) (k : Nibble) : (s.endWait k).faultAddr = s.faultAddr := rfl
@[simp] theorem State.endWait_inv (s : State) (k : Nibble) : (s.endWait k).inv = s.inv := rfl
@[simp] theorem State.endWait_invWord (s : State) (k : Nibble) : (s.endWait k).invWord = s.invWord := rfl
@[simp] theorem State.endWait_invAddr (s : State) (k : Nibble) : (s.endWait k).invAddr = s.invAddr := rfl
@[simp] theorem State.endWait_mem (s : State) (k : Nibble) : (s.endWait k).mem = s.mem := rfl
@[simp] theorem State.endWait_fb (s : State) (k : Nibble) : (s.endWait k).fb = s.fb := rfl
@[simp] theorem State.endWait_inbox (s : State) (k : Nibble) : (s.endWait k).inbox = s.inbox := rfl
@[simp] theorem State.endWait_draws (s : State) (k : Nibble) : (s.endWait k).draws = s.draws := rfl

/-! ### `enterPause` -/

@[simp] theorem State.enterPause_v (s : State) (r : ResumeMode) : (s.enterPause r).v = s.v := rfl
@[simp] theorem State.enterPause_i (s : State) (r : ResumeMode) : (s.enterPause r).i = s.i := rfl
@[simp] theorem State.enterPause_stack (s : State) (r : ResumeMode) : (s.enterPause r).stack = s.stack := rfl
@[simp] theorem State.enterPause_sp (s : State) (r : ResumeMode) : (s.enterPause r).sp = s.sp := rfl
@[simp] theorem State.enterPause_dt (s : State) (r : ResumeMode) : (s.enterPause r).dt = s.dt := rfl
@[simp] theorem State.enterPause_st (s : State) (r : ResumeMode) : (s.enterPause r).st = s.st := rfl
@[simp] theorem State.enterPause_kbd (s : State) (r : ResumeMode) : (s.enterPause r).kbd = s.kbd := rfl
@[simp] theorem State.enterPause_mode (s : State) (r : ResumeMode) : (s.enterPause r).mode = .paused := rfl
@[simp] theorem State.enterPause_ir (s : State) (r : ResumeMode) : (s.enterPause r).ir = s.ir := rfl
@[simp] theorem State.enterPause_waitPending (s : State) (r : ResumeMode) : (s.enterPause r).waitPending = s.waitPending := rfl
@[simp] theorem State.enterPause_waitReg (s : State) (r : ResumeMode) : (s.enterPause r).waitReg = s.waitReg := rfl
@[simp] theorem State.enterPause_resumeMode (s : State) (r : ResumeMode) : (s.enterPause r).resumeMode = r := rfl
@[simp] theorem State.enterPause_fault (s : State) (r : ResumeMode) : (s.enterPause r).fault = s.fault := rfl
@[simp] theorem State.enterPause_faultAddr (s : State) (r : ResumeMode) : (s.enterPause r).faultAddr = s.faultAddr := rfl
@[simp] theorem State.enterPause_inv (s : State) (r : ResumeMode) : (s.enterPause r).inv = s.inv := rfl
@[simp] theorem State.enterPause_invWord (s : State) (r : ResumeMode) : (s.enterPause r).invWord = s.invWord := rfl
@[simp] theorem State.enterPause_invAddr (s : State) (r : ResumeMode) : (s.enterPause r).invAddr = s.invAddr := rfl
@[simp] theorem State.enterPause_mem (s : State) (r : ResumeMode) : (s.enterPause r).mem = s.mem := rfl
@[simp] theorem State.enterPause_fb (s : State) (r : ResumeMode) : (s.enterPause r).fb = s.fb := rfl
@[simp] theorem State.enterPause_inbox (s : State) (r : ResumeMode) : (s.enterPause r).inbox = s.inbox := rfl
@[simp] theorem State.enterPause_draws (s : State) (r : ResumeMode) : (s.enterPause r).draws = s.draws := rfl

/-! ### `takeEvent` -/

@[simp] theorem State.takeEvent_v (s : State) : (s.takeEvent).v = s.v := rfl
@[simp] theorem State.takeEvent_i (s : State) : (s.takeEvent).i = s.i := rfl
@[simp] theorem State.takeEvent_stack (s : State) : (s.takeEvent).stack = s.stack := rfl
@[simp] theorem State.takeEvent_sp (s : State) : (s.takeEvent).sp = s.sp := rfl
@[simp] theorem State.takeEvent_dt (s : State) : (s.takeEvent).dt = s.dt := rfl
@[simp] theorem State.takeEvent_st (s : State) : (s.takeEvent).st = s.st := rfl
@[simp] theorem State.takeEvent_kbd (s : State) : (s.takeEvent).kbd = s.kbd := rfl
@[simp] theorem State.takeEvent_mode (s : State) : (s.takeEvent).mode = s.mode := rfl
@[simp] theorem State.takeEvent_ir (s : State) : (s.takeEvent).ir = s.ir := rfl
@[simp] theorem State.takeEvent_waitPending (s : State) : (s.takeEvent).waitPending = s.waitPending := rfl
@[simp] theorem State.takeEvent_waitReg (s : State) : (s.takeEvent).waitReg = s.waitReg := rfl
@[simp] theorem State.takeEvent_resumeMode (s : State) : (s.takeEvent).resumeMode = s.resumeMode := rfl
@[simp] theorem State.takeEvent_fault (s : State) : (s.takeEvent).fault = s.fault := rfl
@[simp] theorem State.takeEvent_faultAddr (s : State) : (s.takeEvent).faultAddr = s.faultAddr := rfl
@[simp] theorem State.takeEvent_inv (s : State) : (s.takeEvent).inv = s.inv := rfl
@[simp] theorem State.takeEvent_invWord (s : State) : (s.takeEvent).invWord = s.invWord := rfl
@[simp] theorem State.takeEvent_invAddr (s : State) : (s.takeEvent).invAddr = s.invAddr := rfl
@[simp] theorem State.takeEvent_mem (s : State) : (s.takeEvent).mem = s.mem := rfl
@[simp] theorem State.takeEvent_fb (s : State) : (s.takeEvent).fb = s.fb := rfl
@[simp] theorem State.takeEvent_inbox (s : State) : (s.takeEvent).inbox = s.inbox.tail := rfl
@[simp] theorem State.takeEvent_draws (s : State) : (s.takeEvent).draws = s.draws := rfl

/-! ### `skipIf` and `setSubFlag`, each a choice of two updates -/

@[simp] theorem State.skipIf_v (s : State) (b : Bool) : (s.skipIf b).v = s.v := by cases b <;> rfl
@[simp] theorem State.skipIf_i (s : State) (b : Bool) : (s.skipIf b).i = s.i := by cases b <;> rfl
@[simp] theorem State.skipIf_sp (s : State) (b : Bool) : (s.skipIf b).sp = s.sp := by cases b <;> rfl
@[simp] theorem State.skipIf_dt (s : State) (b : Bool) : (s.skipIf b).dt = s.dt := by cases b <;> rfl
@[simp] theorem State.skipIf_st (s : State) (b : Bool) : (s.skipIf b).st = s.st := by cases b <;> rfl
@[simp] theorem State.skipIf_kbd (s : State) (b : Bool) : (s.skipIf b).kbd = s.kbd := by cases b <;> rfl
@[simp] theorem State.skipIf_mode (s : State) (b : Bool) : (s.skipIf b).mode = s.mode := by cases b <;> rfl
@[simp] theorem State.skipIf_ir (s : State) (b : Bool) : (s.skipIf b).ir = s.ir := by cases b <;> rfl
@[simp] theorem State.skipIf_waitPending (s : State) (b : Bool) : (s.skipIf b).waitPending = s.waitPending := by cases b <;> rfl
@[simp] theorem State.skipIf_waitReg (s : State) (b : Bool) : (s.skipIf b).waitReg = s.waitReg := by cases b <;> rfl
@[simp] theorem State.skipIf_resumeMode (s : State) (b : Bool) : (s.skipIf b).resumeMode = s.resumeMode := by cases b <;> rfl
@[simp] theorem State.skipIf_fault (s : State) (b : Bool) : (s.skipIf b).fault = s.fault := by cases b <;> rfl
@[simp] theorem State.skipIf_faultAddr (s : State) (b : Bool) : (s.skipIf b).faultAddr = s.faultAddr := by cases b <;> rfl
@[simp] theorem State.skipIf_inv (s : State) (b : Bool) : (s.skipIf b).inv = s.inv := by cases b <;> rfl
@[simp] theorem State.skipIf_invWord (s : State) (b : Bool) : (s.skipIf b).invWord = s.invWord := by cases b <;> rfl
@[simp] theorem State.skipIf_invAddr (s : State) (b : Bool) : (s.skipIf b).invAddr = s.invAddr := by cases b <;> rfl
@[simp] theorem State.skipIf_mem (s : State) (b : Bool) : (s.skipIf b).mem = s.mem := by cases b <;> rfl
@[simp] theorem State.skipIf_fb (s : State) (b : Bool) : (s.skipIf b).fb = s.fb := by cases b <;> rfl
@[simp] theorem State.skipIf_inbox (s : State) (b : Bool) : (s.skipIf b).inbox = s.inbox := by cases b <;> rfl
@[simp] theorem State.skipIf_draws (s : State) (b : Bool) : (s.skipIf b).draws = s.draws := by cases b <;> rfl

@[simp] theorem State.setFlag_i (s : State) (b : Bool) : (s.setFlag b).i = s.i := rfl
@[simp] theorem State.setFlag_stack (s : State) (b : Bool) : (s.setFlag b).stack = s.stack := rfl
@[simp] theorem State.setFlag_sp (s : State) (b : Bool) : (s.setFlag b).sp = s.sp := rfl
@[simp] theorem State.setFlag_dt (s : State) (b : Bool) : (s.setFlag b).dt = s.dt := rfl
@[simp] theorem State.setFlag_st (s : State) (b : Bool) : (s.setFlag b).st = s.st := rfl
@[simp] theorem State.setFlag_kbd (s : State) (b : Bool) : (s.setFlag b).kbd = s.kbd := rfl
@[simp] theorem State.setFlag_mode (s : State) (b : Bool) : (s.setFlag b).mode = s.mode := rfl
@[simp] theorem State.setFlag_ir (s : State) (b : Bool) : (s.setFlag b).ir = s.ir := rfl
@[simp] theorem State.setFlag_waitPending (s : State) (b : Bool) : (s.setFlag b).waitPending = s.waitPending := rfl
@[simp] theorem State.setFlag_waitReg (s : State) (b : Bool) : (s.setFlag b).waitReg = s.waitReg := rfl
@[simp] theorem State.setFlag_resumeMode (s : State) (b : Bool) : (s.setFlag b).resumeMode = s.resumeMode := rfl
@[simp] theorem State.setFlag_fault (s : State) (b : Bool) : (s.setFlag b).fault = s.fault := rfl
@[simp] theorem State.setFlag_faultAddr (s : State) (b : Bool) : (s.setFlag b).faultAddr = s.faultAddr := rfl
@[simp] theorem State.setFlag_inv (s : State) (b : Bool) : (s.setFlag b).inv = s.inv := rfl
@[simp] theorem State.setFlag_invWord (s : State) (b : Bool) : (s.setFlag b).invWord = s.invWord := rfl
@[simp] theorem State.setFlag_invAddr (s : State) (b : Bool) : (s.setFlag b).invAddr = s.invAddr := rfl
@[simp] theorem State.setFlag_mem (s : State) (b : Bool) : (s.setFlag b).mem = s.mem := rfl
@[simp] theorem State.setFlag_fb (s : State) (b : Bool) : (s.setFlag b).fb = s.fb := rfl
@[simp] theorem State.setFlag_inbox (s : State) (b : Bool) : (s.setFlag b).inbox = s.inbox := rfl
@[simp] theorem State.setFlag_draws (s : State) (b : Bool) : (s.setFlag b).draws = s.draws := rfl

@[simp] theorem State.setSubFlag_i (s : State) (p q : Byte) : (s.setSubFlag p q).i = s.i := by
  unfold State.setSubFlag; split <;> rfl
@[simp] theorem State.setSubFlag_stack (s : State) (p q : Byte) : (s.setSubFlag p q).stack = s.stack := by
  unfold State.setSubFlag; split <;> rfl
@[simp] theorem State.setSubFlag_sp (s : State) (p q : Byte) : (s.setSubFlag p q).sp = s.sp := by
  unfold State.setSubFlag; split <;> rfl
@[simp] theorem State.setSubFlag_dt (s : State) (p q : Byte) : (s.setSubFlag p q).dt = s.dt := by
  unfold State.setSubFlag; split <;> rfl
@[simp] theorem State.setSubFlag_st (s : State) (p q : Byte) : (s.setSubFlag p q).st = s.st := by
  unfold State.setSubFlag; split <;> rfl
@[simp] theorem State.setSubFlag_kbd (s : State) (p q : Byte) : (s.setSubFlag p q).kbd = s.kbd := by
  unfold State.setSubFlag; split <;> rfl
@[simp] theorem State.setSubFlag_mode (s : State) (p q : Byte) : (s.setSubFlag p q).mode = s.mode := by
  unfold State.setSubFlag; split <;> rfl
@[simp] theorem State.setSubFlag_ir (s : State) (p q : Byte) : (s.setSubFlag p q).ir = s.ir := by
  unfold State.setSubFlag; split <;> rfl
@[simp] theorem State.setSubFlag_waitPending (s : State) (p q : Byte) : (s.setSubFlag p q).waitPending = s.waitPending := by
  unfold State.setSubFlag; split <;> rfl
@[simp] theorem State.setSubFlag_waitReg (s : State) (p q : Byte) : (s.setSubFlag p q).waitReg = s.waitReg := by
  unfold State.setSubFlag; split <;> rfl
@[simp] theorem State.setSubFlag_resumeMode (s : State) (p q : Byte) : (s.setSubFlag p q).resumeMode = s.resumeMode := by
  unfold State.setSubFlag; split <;> rfl
@[simp] theorem State.setSubFlag_fault (s : State) (p q : Byte) : (s.setSubFlag p q).fault = s.fault := by
  unfold State.setSubFlag; split <;> rfl
@[simp] theorem State.setSubFlag_faultAddr (s : State) (p q : Byte) : (s.setSubFlag p q).faultAddr = s.faultAddr := by
  unfold State.setSubFlag; split <;> rfl
@[simp] theorem State.setSubFlag_inv (s : State) (p q : Byte) : (s.setSubFlag p q).inv = s.inv := by
  unfold State.setSubFlag; split <;> rfl
@[simp] theorem State.setSubFlag_invWord (s : State) (p q : Byte) : (s.setSubFlag p q).invWord = s.invWord := by
  unfold State.setSubFlag; split <;> rfl
@[simp] theorem State.setSubFlag_invAddr (s : State) (p q : Byte) : (s.setSubFlag p q).invAddr = s.invAddr := by
  unfold State.setSubFlag; split <;> rfl
@[simp] theorem State.setSubFlag_mem (s : State) (p q : Byte) : (s.setSubFlag p q).mem = s.mem := by
  unfold State.setSubFlag; split <;> rfl
@[simp] theorem State.setSubFlag_fb (s : State) (p q : Byte) : (s.setSubFlag p q).fb = s.fb := by
  unfold State.setSubFlag; split <;> rfl
@[simp] theorem State.setSubFlag_inbox (s : State) (p q : Byte) : (s.setSubFlag p q).inbox = s.inbox := by
  unfold State.setSubFlag; split <;> rfl
@[simp] theorem State.setSubFlag_draws (s : State) (p q : Byte) : (s.setSubFlag p q).draws = s.draws := by
  unfold State.setSubFlag; split <;> rfl

end Sys2Proof.Machine
end

