-- ==== Sys2Proof/Laws/Access.lean ====
section
/-! SUPPORT. What each accessor reads after each update that leaves its field alone. The other cases are in
Laws/Ops.lean. -/

namespace Sys2Proof.Machine

/-! ### `State.reg` -/

@[simp] theorem State.reg_setIndex (s : State) (a : Addr) (j : Reg) :
    (s.setIndex a).reg j = s.reg j := rfl
@[simp] theorem State.reg_setDt (s : State) (b : Byte) (j : Reg) :
    (s.setDt b).reg j = s.reg j := rfl
@[simp] theorem State.reg_setSt (s : State) (b : Byte) (j : Reg) :
    (s.setSt b).reg j = s.reg j := rfl
@[simp] theorem State.reg_setKbd (s : State) (k : Option Nibble) (j : Reg) :
    (s.setKbd k).reg j = s.reg j := rfl
@[simp] theorem State.reg_setMode (s : State) (m : Mode) (j : Reg) :
    (s.setMode m).reg j = s.reg j := rfl
@[simp] theorem State.reg_setMem (s : State) (m : Memory) (j : Reg) :
    (s.setMem m).reg j = s.reg j := rfl
@[simp] theorem State.reg_setFb (s : State) (f : Vector Scanline 32) (j : Reg) :
    (s.setFb f).reg j = s.reg j := rfl
@[simp] theorem State.reg_consumeDraw (s : State) (j : Reg) :
    (s.consumeDraw).reg j = s.reg j := rfl
@[simp] theorem State.reg_setPc (s : State) (a : Addr) (j : Reg) :
    (s.setPc a).reg j = s.reg j := rfl
@[simp] theorem State.reg_advance (s : State) (j : Reg) :
    (s.advance).reg j = s.reg j := rfl
@[simp] theorem State.reg_pushFrame (s : State) (a : Addr) (j : Reg) :
    (s.pushFrame a).reg j = s.reg j := rfl
@[simp] theorem State.reg_popFrame (s : State) (j : Reg) :
    (s.popFrame).reg j = s.reg j := rfl
@[simp] theorem State.reg_raise (s : State) (f : FatalFault) (j : Reg) :
    (s.raise f).reg j = s.reg j := rfl
@[simp] theorem State.reg_latchInvalid (s : State) (w : Word) (j : Reg) :
    (s.latchInvalid w).reg j = s.reg j := rfl
@[simp] theorem State.reg_tick (s : State) (j : Reg) :
    (s.tick).reg j = s.reg j := rfl
@[simp] theorem State.reg_beginInstr (s : State) (w : Word) (j : Reg) :
    (s.beginInstr w).reg j = s.reg j := rfl
@[simp] theorem State.reg_startWait (s : State) (x : Reg) (j : Reg) :
    (s.startWait x).reg j = s.reg j := rfl
@[simp] theorem State.reg_enterPause (s : State) (r : ResumeMode) (j : Reg) :
    (s.enterPause r).reg j = s.reg j := rfl
@[simp] theorem State.reg_takeEvent (s : State) (j : Reg) :
    (s.takeEvent).reg j = s.reg j := rfl
@[simp] theorem State.reg_skipIf (s : State) (b : Bool) (j : Reg) :
    (s.skipIf b).reg j = s.reg j := by cases b <;> rfl

/-! ### `State.index` -/

@[simp] theorem State.index_setReg (s : State) (r : Reg) (b : Byte) :
    (s.setReg r b).index = s.index := rfl
@[simp] theorem State.index_setRegs (s : State) (bs : List Byte) :
    (s.setRegs bs).index = s.index := rfl
@[simp] theorem State.index_setDt (s : State) (b : Byte) :
    (s.setDt b).index = s.index := rfl
@[simp] theorem State.index_setSt (s : State) (b : Byte) :
    (s.setSt b).index = s.index := rfl
@[simp] theorem State.index_setKbd (s : State) (k : Option Nibble) :
    (s.setKbd k).index = s.index := rfl
@[simp] theorem State.index_setMode (s : State) (m : Mode) :
    (s.setMode m).index = s.index := rfl
@[simp] theorem State.index_setMem (s : State) (m : Memory) :
    (s.setMem m).index = s.index := rfl
@[simp] theorem State.index_setFb (s : State) (f : Vector Scanline 32) :
    (s.setFb f).index = s.index := rfl
@[simp] theorem State.index_consumeDraw (s : State) :
    (s.consumeDraw).index = s.index := rfl
@[simp] theorem State.index_setPc (s : State) (a : Addr) :
    (s.setPc a).index = s.index := rfl
@[simp] theorem State.index_advance (s : State) :
    (s.advance).index = s.index := rfl
@[simp] theorem State.index_pushFrame (s : State) (a : Addr) :
    (s.pushFrame a).index = s.index := rfl
@[simp] theorem State.index_popFrame (s : State) :
    (s.popFrame).index = s.index := rfl
@[simp] theorem State.index_raise (s : State) (f : FatalFault) :
    (s.raise f).index = s.index := rfl
@[simp] theorem State.index_latchInvalid (s : State) (w : Word) :
    (s.latchInvalid w).index = s.index := rfl
@[simp] theorem State.index_tick (s : State) :
    (s.tick).index = s.index := rfl
@[simp] theorem State.index_beginInstr (s : State) (w : Word) :
    (s.beginInstr w).index = s.index := rfl
@[simp] theorem State.index_startWait (s : State) (x : Reg) :
    (s.startWait x).index = s.index := rfl
@[simp] theorem State.index_endWait (s : State) (k : Nibble) :
    (s.endWait k).index = s.index := rfl
@[simp] theorem State.index_enterPause (s : State) (r : ResumeMode) :
    (s.enterPause r).index = s.index := rfl
@[simp] theorem State.index_takeEvent (s : State) :
    (s.takeEvent).index = s.index := rfl
@[simp] theorem State.index_skipIf (s : State) (b : Bool) :
    (s.skipIf b).index = s.index := by cases b <;> rfl
@[simp] theorem State.index_setFlag (s : State) (b : Bool) :
    (s.setFlag b).index = s.index := rfl
@[simp] theorem State.index_setSubFlag (s : State) (p q : Byte) :
    (s.setSubFlag p q).index = s.index := by
  unfold State.setSubFlag; split <;> rfl

/-! ### `State.entry` -/

@[simp] theorem State.entry_setReg (s : State) (r : Reg) (b : Byte) (j : Fin 16) :
    (s.setReg r b).entry j = s.entry j := rfl
@[simp] theorem State.entry_setRegs (s : State) (bs : List Byte) (j : Fin 16) :
    (s.setRegs bs).entry j = s.entry j := rfl
@[simp] theorem State.entry_setIndex (s : State) (a : Addr) (j : Fin 16) :
    (s.setIndex a).entry j = s.entry j := rfl
@[simp] theorem State.entry_setDt (s : State) (b : Byte) (j : Fin 16) :
    (s.setDt b).entry j = s.entry j := rfl
@[simp] theorem State.entry_setSt (s : State) (b : Byte) (j : Fin 16) :
    (s.setSt b).entry j = s.entry j := rfl
@[simp] theorem State.entry_setKbd (s : State) (k : Option Nibble) (j : Fin 16) :
    (s.setKbd k).entry j = s.entry j := rfl
@[simp] theorem State.entry_setMode (s : State) (m : Mode) (j : Fin 16) :
    (s.setMode m).entry j = s.entry j := rfl
@[simp] theorem State.entry_setMem (s : State) (m : Memory) (j : Fin 16) :
    (s.setMem m).entry j = s.entry j := rfl
@[simp] theorem State.entry_setFb (s : State) (f : Vector Scanline 32) (j : Fin 16) :
    (s.setFb f).entry j = s.entry j := rfl
@[simp] theorem State.entry_consumeDraw (s : State) (j : Fin 16) :
    (s.consumeDraw).entry j = s.entry j := rfl
@[simp] theorem State.entry_popFrame (s : State) (j : Fin 16) :
    (s.popFrame).entry j = s.entry j := rfl
@[simp] theorem State.entry_raise (s : State) (f : FatalFault) (j : Fin 16) :
    (s.raise f).entry j = s.entry j := rfl
@[simp] theorem State.entry_latchInvalid (s : State) (w : Word) (j : Fin 16) :
    (s.latchInvalid w).entry j = s.entry j := rfl
@[simp] theorem State.entry_tick (s : State) (j : Fin 16) :
    (s.tick).entry j = s.entry j := rfl
@[simp] theorem State.entry_beginInstr (s : State) (w : Word) (j : Fin 16) :
    (s.beginInstr w).entry j = s.entry j := rfl
@[simp] theorem State.entry_startWait (s : State) (x : Reg) (j : Fin 16) :
    (s.startWait x).entry j = s.entry j := rfl
@[simp] theorem State.entry_endWait (s : State) (k : Nibble) (j : Fin 16) :
    (s.endWait k).entry j = s.entry j := rfl
@[simp] theorem State.entry_enterPause (s : State) (r : ResumeMode) (j : Fin 16) :
    (s.enterPause r).entry j = s.entry j := rfl
@[simp] theorem State.entry_takeEvent (s : State) (j : Fin 16) :
    (s.takeEvent).entry j = s.entry j := rfl
@[simp] theorem State.entry_setFlag (s : State) (b : Bool) (j : Fin 16) :
    (s.setFlag b).entry j = s.entry j := rfl
@[simp] theorem State.entry_setSubFlag (s : State) (p q : Byte) (j : Fin 16) :
    (s.setSubFlag p q).entry j = s.entry j := by
  unfold State.setSubFlag; split <;> rfl

/-! ### `State.pc` -/

@[simp] theorem State.pc_setReg (s : State) (r : Reg) (b : Byte) :
    (s.setReg r b).pc = s.pc := rfl
@[simp] theorem State.pc_setRegs (s : State) (bs : List Byte) :
    (s.setRegs bs).pc = s.pc := rfl
@[simp] theorem State.pc_setIndex (s : State) (a : Addr) :
    (s.setIndex a).pc = s.pc := rfl
@[simp] theorem State.pc_setDt (s : State) (b : Byte) :
    (s.setDt b).pc = s.pc := rfl
@[simp] theorem State.pc_setSt (s : State) (b : Byte) :
    (s.setSt b).pc = s.pc := rfl
@[simp] theorem State.pc_setKbd (s : State) (k : Option Nibble) :
    (s.setKbd k).pc = s.pc := rfl
@[simp] theorem State.pc_setMode (s : State) (m : Mode) :
    (s.setMode m).pc = s.pc := rfl
@[simp] theorem State.pc_setMem (s : State) (m : Memory) :
    (s.setMem m).pc = s.pc := rfl
@[simp] theorem State.pc_setFb (s : State) (f : Vector Scanline 32) :
    (s.setFb f).pc = s.pc := rfl
@[simp] theorem State.pc_consumeDraw (s : State) :
    (s.consumeDraw).pc = s.pc := rfl
@[simp] theorem State.pc_raise (s : State) (f : FatalFault) :
    (s.raise f).pc = s.pc := rfl
@[simp] theorem State.pc_latchInvalid (s : State) (w : Word) :
    (s.latchInvalid w).pc = s.pc := rfl
@[simp] theorem State.pc_tick (s : State) :
    (s.tick).pc = s.pc := rfl
@[simp] theorem State.pc_beginInstr (s : State) (w : Word) :
    (s.beginInstr w).pc = s.pc := rfl
@[simp] theorem State.pc_startWait (s : State) (x : Reg) :
    (s.startWait x).pc = s.pc := rfl
@[simp] theorem State.pc_endWait (s : State) (k : Nibble) :
    (s.endWait k).pc = s.pc := rfl
@[simp] theorem State.pc_enterPause (s : State) (r : ResumeMode) :
    (s.enterPause r).pc = s.pc := rfl
@[simp] theorem State.pc_takeEvent (s : State) :
    (s.takeEvent).pc = s.pc := rfl
@[simp] theorem State.pc_setFlag (s : State) (b : Bool) :
    (s.setFlag b).pc = s.pc := rfl
@[simp] theorem State.pc_setSubFlag (s : State) (p q : Byte) :
    (s.setSubFlag p q).pc = s.pc := by
  unfold State.setSubFlag; split <;> rfl

/-! ### `State.row` -/

@[simp] theorem State.row_setReg (s : State) (r : Reg) (b : Byte) (j : Fin 32) :
    (s.setReg r b).row j = s.row j := rfl
@[simp] theorem State.row_setRegs (s : State) (bs : List Byte) (j : Fin 32) :
    (s.setRegs bs).row j = s.row j := rfl
@[simp] theorem State.row_setIndex (s : State) (a : Addr) (j : Fin 32) :
    (s.setIndex a).row j = s.row j := rfl
@[simp] theorem State.row_setDt (s : State) (b : Byte) (j : Fin 32) :
    (s.setDt b).row j = s.row j := rfl
@[simp] theorem State.row_setSt (s : State) (b : Byte) (j : Fin 32) :
    (s.setSt b).row j = s.row j := rfl
@[simp] theorem State.row_setKbd (s : State) (k : Option Nibble) (j : Fin 32) :
    (s.setKbd k).row j = s.row j := rfl
@[simp] theorem State.row_setMode (s : State) (m : Mode) (j : Fin 32) :
    (s.setMode m).row j = s.row j := rfl
@[simp] theorem State.row_setMem (s : State) (m : Memory) (j : Fin 32) :
    (s.setMem m).row j = s.row j := rfl
@[simp] theorem State.row_consumeDraw (s : State) (j : Fin 32) :
    (s.consumeDraw).row j = s.row j := rfl
@[simp] theorem State.row_setPc (s : State) (a : Addr) (j : Fin 32) :
    (s.setPc a).row j = s.row j := rfl
@[simp] theorem State.row_advance (s : State) (j : Fin 32) :
    (s.advance).row j = s.row j := rfl
@[simp] theorem State.row_pushFrame (s : State) (a : Addr) (j : Fin 32) :
    (s.pushFrame a).row j = s.row j := rfl
@[simp] theorem State.row_popFrame (s : State) (j : Fin 32) :
    (s.popFrame).row j = s.row j := rfl
@[simp] theorem State.row_raise (s : State) (f : FatalFault) (j : Fin 32) :
    (s.raise f).row j = s.row j := rfl
@[simp] theorem State.row_latchInvalid (s : State) (w : Word) (j : Fin 32) :
    (s.latchInvalid w).row j = s.row j := rfl
@[simp] theorem State.row_tick (s : State) (j : Fin 32) :
    (s.tick).row j = s.row j := rfl
@[simp] theorem State.row_beginInstr (s : State) (w : Word) (j : Fin 32) :
    (s.beginInstr w).row j = s.row j := rfl
@[simp] theorem State.row_startWait (s : State) (x : Reg) (j : Fin 32) :
    (s.startWait x).row j = s.row j := rfl
@[simp] theorem State.row_endWait (s : State) (k : Nibble) (j : Fin 32) :
    (s.endWait k).row j = s.row j := rfl
@[simp] theorem State.row_enterPause (s : State) (r : ResumeMode) (j : Fin 32) :
    (s.enterPause r).row j = s.row j := rfl
@[simp] theorem State.row_takeEvent (s : State) (j : Fin 32) :
    (s.takeEvent).row j = s.row j := rfl
@[simp] theorem State.row_skipIf (s : State) (b : Bool) (j : Fin 32) :
    (s.skipIf b).row j = s.row j := by cases b <;> rfl
@[simp] theorem State.row_setFlag (s : State) (b : Bool) (j : Fin 32) :
    (s.setFlag b).row j = s.row j := rfl
@[simp] theorem State.row_setSubFlag (s : State) (p q : Byte) (j : Fin 32) :
    (s.setSubFlag p q).row j = s.row j := by
  unfold State.setSubFlag; split <;> rfl

/-! ### `State.isPressed` -/

@[simp] theorem State.isPressed_setReg (s : State) (r : Reg) (b : Byte) (n : Nibble) :
    (s.setReg r b).isPressed n = s.isPressed n := rfl
@[simp] theorem State.isPressed_setRegs (s : State) (bs : List Byte) (n : Nibble) :
    (s.setRegs bs).isPressed n = s.isPressed n := rfl
@[simp] theorem State.isPressed_setIndex (s : State) (a : Addr) (n : Nibble) :
    (s.setIndex a).isPressed n = s.isPressed n := rfl
@[simp] theorem State.isPressed_setDt (s : State) (b : Byte) (n : Nibble) :
    (s.setDt b).isPressed n = s.isPressed n := rfl
@[simp] theorem State.isPressed_setSt (s : State) (b : Byte) (n : Nibble) :
    (s.setSt b).isPressed n = s.isPressed n := rfl
@[simp] theorem State.isPressed_setMode (s : State) (m : Mode) (n : Nibble) :
    (s.setMode m).isPressed n = s.isPressed n := rfl
@[simp] theorem State.isPressed_setMem (s : State) (m : Memory) (n : Nibble) :
    (s.setMem m).isPressed n = s.isPressed n := rfl
@[simp] theorem State.isPressed_setFb (s : State) (f : Vector Scanline 32) (n : Nibble) :
    (s.setFb f).isPressed n = s.isPressed n := rfl
@[simp] theorem State.isPressed_consumeDraw (s : State) (n : Nibble) :
    (s.consumeDraw).isPressed n = s.isPressed n := rfl
@[simp] theorem State.isPressed_setPc (s : State) (a : Addr) (n : Nibble) :
    (s.setPc a).isPressed n = s.isPressed n := rfl
@[simp] theorem State.isPressed_advance (s : State) (n : Nibble) :
    (s.advance).isPressed n = s.isPressed n := rfl
@[simp] theorem State.isPressed_pushFrame (s : State) (a : Addr) (n : Nibble) :
    (s.pushFrame a).isPressed n = s.isPressed n := rfl
@[simp] theorem State.isPressed_popFrame (s : State) (n : Nibble) :
    (s.popFrame).isPressed n = s.isPressed n := rfl
@[simp] theorem State.isPressed_raise (s : State) (f : FatalFault) (n : Nibble) :
    (s.raise f).isPressed n = s.isPressed n := rfl
@[simp] theorem State.isPressed_latchInvalid (s : State) (w : Word) (n : Nibble) :
    (s.latchInvalid w).isPressed n = s.isPressed n := rfl
@[simp] theorem State.isPressed_tick (s : State) (n : Nibble) :
    (s.tick).isPressed n = s.isPressed n := rfl
@[simp] theorem State.isPressed_beginInstr (s : State) (w : Word) (n : Nibble) :
    (s.beginInstr w).isPressed n = s.isPressed n := rfl
@[simp] theorem State.isPressed_startWait (s : State) (x : Reg) (n : Nibble) :
    (s.startWait x).isPressed n = s.isPressed n := rfl
@[simp] theorem State.isPressed_endWait (s : State) (k : Nibble) (n : Nibble) :
    (s.endWait k).isPressed n = s.isPressed n := rfl
@[simp] theorem State.isPressed_enterPause (s : State) (r : ResumeMode) (n : Nibble) :
    (s.enterPause r).isPressed n = s.isPressed n := rfl
@[simp] theorem State.isPressed_takeEvent (s : State) (n : Nibble) :
    (s.takeEvent).isPressed n = s.isPressed n := rfl
@[simp] theorem State.isPressed_skipIf (s : State) (b : Bool) (n : Nibble) :
    (s.skipIf b).isPressed n = s.isPressed n := by cases b <;> rfl
@[simp] theorem State.isPressed_setFlag (s : State) (b : Bool) (n : Nibble) :
    (s.setFlag b).isPressed n = s.isPressed n := rfl
@[simp] theorem State.isPressed_setSubFlag (s : State) (p q : Byte) (n : Nibble) :
    (s.setSubFlag p q).isPressed n = s.isPressed n := by
  unfold State.setSubFlag; split <;> rfl

/-! ### `State.draw` -/

@[simp] theorem State.draw_setReg (s : State) (r : Reg) (b : Byte) :
    (s.setReg r b).draw = s.draw := rfl
@[simp] theorem State.draw_setRegs (s : State) (bs : List Byte) :
    (s.setRegs bs).draw = s.draw := rfl
@[simp] theorem State.draw_setIndex (s : State) (a : Addr) :
    (s.setIndex a).draw = s.draw := rfl
@[simp] theorem State.draw_setDt (s : State) (b : Byte) :
    (s.setDt b).draw = s.draw := rfl
@[simp] theorem State.draw_setSt (s : State) (b : Byte) :
    (s.setSt b).draw = s.draw := rfl
@[simp] theorem State.draw_setKbd (s : State) (k : Option Nibble) :
    (s.setKbd k).draw = s.draw := rfl
@[simp] theorem State.draw_setMode (s : State) (m : Mode) :
    (s.setMode m).draw = s.draw := rfl
@[simp] theorem State.draw_setMem (s : State) (m : Memory) :
    (s.setMem m).draw = s.draw := rfl
@[simp] theorem State.draw_setFb (s : State) (f : Vector Scanline 32) :
    (s.setFb f).draw = s.draw := rfl
@[simp] theorem State.draw_setPc (s : State) (a : Addr) :
    (s.setPc a).draw = s.draw := rfl
@[simp] theorem State.draw_advance (s : State) :
    (s.advance).draw = s.draw := rfl
@[simp] theorem State.draw_pushFrame (s : State) (a : Addr) :
    (s.pushFrame a).draw = s.draw := rfl
@[simp] theorem State.draw_popFrame (s : State) :
    (s.popFrame).draw = s.draw := rfl
@[simp] theorem State.draw_raise (s : State) (f : FatalFault) :
    (s.raise f).draw = s.draw := rfl
@[simp] theorem State.draw_latchInvalid (s : State) (w : Word) :
    (s.latchInvalid w).draw = s.draw := rfl
@[simp] theorem State.draw_tick (s : State) :
    (s.tick).draw = s.draw := rfl
@[simp] theorem State.draw_beginInstr (s : State) (w : Word) :
    (s.beginInstr w).draw = s.draw := rfl
@[simp] theorem State.draw_startWait (s : State) (x : Reg) :
    (s.startWait x).draw = s.draw := rfl
@[simp] theorem State.draw_endWait (s : State) (k : Nibble) :
    (s.endWait k).draw = s.draw := rfl
@[simp] theorem State.draw_enterPause (s : State) (r : ResumeMode) :
    (s.enterPause r).draw = s.draw := rfl
@[simp] theorem State.draw_takeEvent (s : State) :
    (s.takeEvent).draw = s.draw := rfl
@[simp] theorem State.draw_skipIf (s : State) (b : Bool) :
    (s.skipIf b).draw = s.draw := by cases b <;> rfl
@[simp] theorem State.draw_setFlag (s : State) (b : Bool) :
    (s.setFlag b).draw = s.draw := rfl
@[simp] theorem State.draw_setSubFlag (s : State) (p q : Byte) :
    (s.setSubFlag p q).draw = s.draw := by
  unfold State.setSubFlag; split <;> rfl

/-! ### `State.halted` -/

@[simp] theorem State.halted_setReg (s : State) (r : Reg) (b : Byte) :
    (s.setReg r b).halted = s.halted := rfl
@[simp] theorem State.halted_setRegs (s : State) (bs : List Byte) :
    (s.setRegs bs).halted = s.halted := rfl
@[simp] theorem State.halted_setIndex (s : State) (a : Addr) :
    (s.setIndex a).halted = s.halted := rfl
@[simp] theorem State.halted_setDt (s : State) (b : Byte) :
    (s.setDt b).halted = s.halted := rfl
@[simp] theorem State.halted_setSt (s : State) (b : Byte) :
    (s.setSt b).halted = s.halted := rfl
@[simp] theorem State.halted_setKbd (s : State) (k : Option Nibble) :
    (s.setKbd k).halted = s.halted := rfl
@[simp] theorem State.halted_setMode (s : State) (m : Mode) :
    (s.setMode m).halted = s.halted := rfl
@[simp] theorem State.halted_setMem (s : State) (m : Memory) :
    (s.setMem m).halted = s.halted := rfl
@[simp] theorem State.halted_setFb (s : State) (f : Vector Scanline 32) :
    (s.setFb f).halted = s.halted := rfl
@[simp] theorem State.halted_consumeDraw (s : State) :
    (s.consumeDraw).halted = s.halted := rfl
@[simp] theorem State.halted_setPc (s : State) (a : Addr) :
    (s.setPc a).halted = s.halted := rfl
@[simp] theorem State.halted_advance (s : State) :
    (s.advance).halted = s.halted := rfl
@[simp] theorem State.halted_pushFrame (s : State) (a : Addr) :
    (s.pushFrame a).halted = s.halted := rfl
@[simp] theorem State.halted_popFrame (s : State) :
    (s.popFrame).halted = s.halted := rfl
@[simp] theorem State.halted_latchInvalid (s : State) (w : Word) :
    (s.latchInvalid w).halted = s.halted := rfl
@[simp] theorem State.halted_tick (s : State) :
    (s.tick).halted = s.halted := rfl
@[simp] theorem State.halted_beginInstr (s : State) (w : Word) :
    (s.beginInstr w).halted = s.halted := rfl
@[simp] theorem State.halted_startWait (s : State) (x : Reg) :
    (s.startWait x).halted = s.halted := rfl
@[simp] theorem State.halted_endWait (s : State) (k : Nibble) :
    (s.endWait k).halted = s.halted := rfl
@[simp] theorem State.halted_enterPause (s : State) (r : ResumeMode) :
    (s.enterPause r).halted = s.halted := rfl
@[simp] theorem State.halted_takeEvent (s : State) :
    (s.takeEvent).halted = s.halted := rfl
@[simp] theorem State.halted_skipIf (s : State) (b : Bool) :
    (s.skipIf b).halted = s.halted := by cases b <;> rfl
@[simp] theorem State.halted_setFlag (s : State) (b : Bool) :
    (s.setFlag b).halted = s.halted := rfl
@[simp] theorem State.halted_setSubFlag (s : State) (p q : Byte) :
    (s.setSubFlag p q).halted = s.halted := by
  unfold State.setSubFlag; split <;> rfl

/-! ### `State.nextEvent` -/

@[simp] theorem State.nextEvent_setReg (s : State) (r : Reg) (b : Byte) :
    (s.setReg r b).nextEvent = s.nextEvent := rfl
@[simp] theorem State.nextEvent_setRegs (s : State) (bs : List Byte) :
    (s.setRegs bs).nextEvent = s.nextEvent := rfl
@[simp] theorem State.nextEvent_setIndex (s : State) (a : Addr) :
    (s.setIndex a).nextEvent = s.nextEvent := rfl
@[simp] theorem State.nextEvent_setDt (s : State) (b : Byte) :
    (s.setDt b).nextEvent = s.nextEvent := rfl
@[simp] theorem State.nextEvent_setSt (s : State) (b : Byte) :
    (s.setSt b).nextEvent = s.nextEvent := rfl
@[simp] theorem State.nextEvent_setKbd (s : State) (k : Option Nibble) :
    (s.setKbd k).nextEvent = s.nextEvent := rfl
@[simp] theorem State.nextEvent_setMode (s : State) (m : Mode) :
    (s.setMode m).nextEvent = s.nextEvent := rfl
@[simp] theorem State.nextEvent_setMem (s : State) (m : Memory) :
    (s.setMem m).nextEvent = s.nextEvent := rfl
@[simp] theorem State.nextEvent_setFb (s : State) (f : Vector Scanline 32) :
    (s.setFb f).nextEvent = s.nextEvent := rfl
@[simp] theorem State.nextEvent_consumeDraw (s : State) :
    (s.consumeDraw).nextEvent = s.nextEvent := rfl
@[simp] theorem State.nextEvent_setPc (s : State) (a : Addr) :
    (s.setPc a).nextEvent = s.nextEvent := rfl
@[simp] theorem State.nextEvent_advance (s : State) :
    (s.advance).nextEvent = s.nextEvent := rfl
@[simp] theorem State.nextEvent_pushFrame (s : State) (a : Addr) :
    (s.pushFrame a).nextEvent = s.nextEvent := rfl
@[simp] theorem State.nextEvent_popFrame (s : State) :
    (s.popFrame).nextEvent = s.nextEvent := rfl
@[simp] theorem State.nextEvent_raise (s : State) (f : FatalFault) :
    (s.raise f).nextEvent = s.nextEvent := rfl
@[simp] theorem State.nextEvent_latchInvalid (s : State) (w : Word) :
    (s.latchInvalid w).nextEvent = s.nextEvent := rfl
@[simp] theorem State.nextEvent_tick (s : State) :
    (s.tick).nextEvent = s.nextEvent := rfl
@[simp] theorem State.nextEvent_beginInstr (s : State) (w : Word) :
    (s.beginInstr w).nextEvent = s.nextEvent := rfl
@[simp] theorem State.nextEvent_startWait (s : State) (x : Reg) :
    (s.startWait x).nextEvent = s.nextEvent := rfl
@[simp] theorem State.nextEvent_endWait (s : State) (k : Nibble) :
    (s.endWait k).nextEvent = s.nextEvent := rfl
@[simp] theorem State.nextEvent_enterPause (s : State) (r : ResumeMode) :
    (s.enterPause r).nextEvent = s.nextEvent := rfl
@[simp] theorem State.nextEvent_skipIf (s : State) (b : Bool) :
    (s.skipIf b).nextEvent = s.nextEvent := by cases b <;> rfl
@[simp] theorem State.nextEvent_setFlag (s : State) (b : Bool) :
    (s.setFlag b).nextEvent = s.nextEvent := rfl
@[simp] theorem State.nextEvent_setSubFlag (s : State) (p q : Byte) :
    (s.setSubFlag p q).nextEvent = s.nextEvent := by
  unfold State.setSubFlag; split <;> rfl

end Sys2Proof.Machine
end

