-- ==== Sys2Proof/Laws/Memory.lean ====
section
/-! SUPPORT. What the memory operations do, and that each keeps the canonical form (log entry 5). -/

namespace Sys2Proof.Machine

/-! ## Cells -/

theorem lookupCell_insertCell (a b : Nat) (x : Byte) (cs : List Host.Cell) :
    lookupCell b (insertCell a x cs) = if b = a then some x else lookupCell b cs := by
  induction cs with
  | nil => simp only [insertCell, lookupCell, eq_comm]
  | cons c rest ih =>
    unfold insertCell
    split_ifs <;> simp only [lookupCell, ih] <;> split_ifs <;> first | rfl | omega

theorem lookupCell_eraseCell (a b : Nat) (cs : List Host.Cell) :
    lookupCell b (eraseCell a cs) = if b = a then none else lookupCell b cs := by
  induction cs with
  | nil => simp [eraseCell, lookupCell]
  | cons c rest ih =>
    unfold eraseCell
    split_ifs <;> simp only [lookupCell, ih] <;> split_ifs <;> first | rfl | omega

theorem risingFrom_mono {n m : Nat} (h : m ≤ n) {cs : List Host.Cell} (hc : risingFrom n cs = true) :
    risingFrom m cs = true := by
  cases cs with
  | nil => rfl
  | cons c rest =>
    simp only [risingFrom, Bool.and_eq_true, decide_eq_true_eq] at hc ⊢
    exact ⟨h.trans hc.1, hc.2⟩

theorem risingFrom_insertCell {n a : Nat} (x : Byte) (h : n ≤ a) {cs : List Host.Cell}
    (hc : risingFrom n cs = true) : risingFrom n (insertCell a x cs) = true := by
  induction cs generalizing n with
  | nil => simp [insertCell, risingFrom, h]
  | cons c rest ih =>
    simp only [risingFrom, Bool.and_eq_true, decide_eq_true_eq] at hc
    unfold insertCell
    split_ifs with h1 h2
    · simp [risingFrom, hc.1, ih h1 hc.2]
    · simp [risingFrom, ← h2, hc]
    · have : a + 1 ≤ c.1 := by omega
      simp [risingFrom, h, this, hc.2]

theorem risingFrom_eraseCell {n a : Nat} {cs : List Host.Cell} (hc : risingFrom n cs = true) :
    risingFrom n (eraseCell a cs) = true := by
  induction cs generalizing n with
  | nil => rfl
  | cons c rest ih =>
    simp only [risingFrom, Bool.and_eq_true, decide_eq_true_eq] at hc
    unfold eraseCell
    split_ifs
    · exact ih (risingFrom_mono (by omega) hc.2)
    · simp [risingFrom, hc.1, ih hc.2]

theorem mem_insertCell {c : Host.Cell} {a : Nat} {x : Byte} {cs : List Host.Cell} (h : c ∈ insertCell a x cs) :
    c = (a, x) ∨ c ∈ cs := by
  induction cs with
  | nil => simpa [insertCell] using h
  | cons d rest ih =>
    unfold insertCell at h
    split_ifs at h
    · rcases List.mem_cons.mp h with rfl | h
      · exact .inr (by simp)
      · exact (ih h).imp_right (by simp +contextual)
    · rcases List.mem_cons.mp h with rfl | h
      · exact .inl rfl
      · exact .inr (by simp [h])
    · rcases List.mem_cons.mp h with rfl | h
      · exact .inl rfl
      · exact .inr h

theorem mem_eraseCell {c : Host.Cell} {a : Nat} {cs : List Host.Cell} (h : c ∈ eraseCell a cs) : c ∈ cs := by
  induction cs with
  | nil => exact h
  | cons d rest ih =>
    unfold eraseCell at h
    split_ifs at h
    · simp [ih h]
    · rcases List.mem_cons.mp h with rfl | h
      · simp
      · simp [ih h]

/-! ## Reads after writes -/

@[simp] theorem Memory.write_font (m : Memory) (a : Addr) (b : Byte) : (m.write a b).font = m.font := rfl

@[simp] theorem Memory.write_unlisted (m : Memory) (a : Addr) (b : Byte) : (m.write a b).unlisted = m.unlisted := rfl

/-- A read after a write gives the byte written there and the old byte anywhere else (R52, R53). -/
theorem Memory.read_write (m : Memory) (a b : Addr) (x : Byte) :
    (m.write a x).read b = if b = a then x else m.read b := by
  have hn : b = a ↔ b.toNat = a.toNat := BitVec.toNat_inj.symm
  simp only [Memory.read, Memory.write_unlisted]
  unfold Memory.write
  by_cases h : x = m.unlisted a.toNat
  · simp only [h, if_true, lookupCell_eraseCell]
    by_cases hb : b.toNat = a.toNat <;> simp [hn, hb]
  · simp only [h, if_false, lookupCell_insertCell]
    by_cases hb : b.toNat = a.toNat <;> simp [hn, hb]

@[simp] theorem Memory.writeBytes_font (m : Memory) (a : Addr) (bs : List Byte) :
    (m.writeBytes a bs).font = m.font := by
  induction bs generalizing m a with
  | nil => rfl
  | cons b bs ih => simp [Memory.writeBytes, ih]

@[simp] theorem Memory.writeBytes_nil (m : Memory) (a : Addr) : m.writeBytes a [] = m := rfl

/-- How far above `a` an address lies, wrapping. -/
abbrev offsetFrom (a x : Addr) : Nat := (x - a).toNat

/-- After at most 4096 bytes are stored from `a` upward, each address holds the byte stored at its offset, or what it
held (R53, R57). -/
theorem Memory.read_writeBytes (m : Memory) (a x : Addr) (bs : List Byte) (hl : bs.length ≤ 4096) :
    (m.writeBytes a bs).read x =
      if h : offsetFrom a x < bs.length then bs[offsetFrom a x] else m.read x := by
  induction bs generalizing m a with
  | nil => simp
  | cons b bs ih =>
    have hl' : bs.length + 1 ≤ 4096 := by simpa using hl
    rw [Memory.writeBytes, ih _ _ (by omega), Memory.read_write]
    by_cases hx : x = a
    · subst hx
      have h1 : offsetFrom (x + 1#12) x = 4095 := by simp only [offsetFrom]; bv_omega
      have h0 : offsetFrom x x = 0 := by simp [offsetFrom]
      rw [dif_neg (by omega)]
      simp [h0]
    · have h1 : offsetFrom a x = offsetFrom (a + 1#12) x + 1 := by
        have : x.toNat ≠ a.toNat := fun h => hx (BitVec.eq_of_toNat_eq h)
        simp only [offsetFrom]
        bv_omega
      simp only [h1, List.length_cons, Nat.add_lt_add_iff_right, hx, if_false]
      split_ifs <;> simp

@[simp] theorem Memory.length_readBytes (m : Memory) (a : Addr) (n : Nat) : (m.readBytes a n).length = n := by
  induction n generalizing a with
  | zero => rfl
  | succ n ih => simp [Memory.readBytes, ih]

/-- Byte `k` of a run of bytes is the byte at `addr(a + k)` (R55). -/
theorem Memory.getElem_readBytes (m : Memory) (a : Addr) (n k : Nat) (h : k < (m.readBytes a n).length) :
    (m.readBytes a n)[k] = m.read (a + BitVec.ofNat 12 k) := by
  induction n generalizing a k with
  | zero => simp [Memory.readBytes] at h
  | succ n ih =>
    cases k with
    | zero => simp [Memory.readBytes]
    | succ k =>
      have hs : a + BitVec.ofNat 12 (k + 1) = a + 1#12 + BitVec.ofNat 12 k := by bv_omega
      simp only [Memory.readBytes, List.getElem_cons_succ, hs]
      exact ih (a + 1#12) k (by simpa [Memory.readBytes] using h)

/-- A slice is refused exactly when it passes the end of memory, and is otherwise the bytes in order (R55). -/
theorem Memory.slice_eq (m : Memory) (a : Addr) (n : Nat) :
    (slicePasses a n ∧ m.slice a n = none) ∨ (¬ slicePasses a n ∧ m.slice a n = some (m.readBytes a n)) := by
  by_cases h : slicePasses a n <;> simp [Memory.slice, h]

/-- A storing slice is refused exactly when it passes the end of memory, and otherwise stores every byte (R56). -/
theorem Memory.storeSlice_eq (m : Memory) (a : Addr) (bs : List Byte) :
    (slicePasses a bs.length ∧ m.storeSlice a bs = none) ∨
      (¬ slicePasses a bs.length ∧ m.storeSlice a bs = some (m.writeBytes a bs)) := by
  by_cases h : slicePasses a bs.length <;> simp [Memory.storeSlice, h]

/-! ## The canonical form -/

theorem Memory.wf_iff (m : Memory) :
    m.wf = true ↔ risingFrom 0 m.cells = true ∧ ∀ c ∈ m.cells, c.1 < 4096 ∧ c.2 ≠ m.unlisted c.1 := by
  simp [Memory.wf]

/-- A write keeps the canonical form. -/
theorem Memory.write_wf {m : Memory} (h : m.wf = true) (a : Addr) (b : Byte) : (m.write a b).wf = true := by
  rw [Memory.wf_iff] at h ⊢
  rw [Memory.write_unlisted]
  by_cases hb : b = m.unlisted a.toNat
  · have hc : (m.write a b).cells = eraseCell a.toNat m.cells := by simp [Memory.write, hb]
    rw [hc]
    exact ⟨risingFrom_eraseCell h.1, fun c hc => h.2 c (mem_eraseCell hc)⟩
  · have hc : (m.write a b).cells = insertCell a.toNat b m.cells := by simp [Memory.write, hb]
    rw [hc]
    refine ⟨risingFrom_insertCell b (Nat.zero_le _) h.1, fun c hc => ?_⟩
    rcases mem_insertCell hc with rfl | hc
    · exact ⟨a.isLt, hb⟩
    · exact h.2 c hc

/-- Storing bytes keeps the canonical form. -/
theorem Memory.writeBytes_wf {m : Memory} (h : m.wf = true) (a : Addr) (bs : List Byte) :
    (m.writeBytes a bs).wf = true := by
  induction bs generalizing m a with
  | nil => exact h
  | cons b bs ih => exact ih (Memory.write_wf h a b) _

/-- A storing slice keeps the canonical form. -/
theorem Memory.storeSlice_wf {m m' : Memory} {a : Addr} {bs : List Byte} (h : m.wf = true)
    (hs : m.storeSlice a bs = some m') : m'.wf = true := by
  rcases m.storeSlice_eq a bs with ⟨-, e⟩ | ⟨-, e⟩ <;> rw [e] at hs <;> cases hs
  exact Memory.writeBytes_wf h a bs

/-- Memory right after reset has the canonical form, for every `FONT`. -/
theorem State.resetWith_mem_wf (font : Vector Byte 80) : (State.resetWith font).mem.wf = true := rfl

/-- With nothing listed, every address reads as its reset contents. -/
theorem Memory.read_of_cells_nil {m : Memory} (h : m.cells = []) (a : Addr) : m.read a = m.unlisted a.toNat := by
  simp [Memory.read, h, lookupCell]

end Sys2Proof.Machine
end

