-- ==== Sys2Proof/Laws/Ops.lean ====
section
/-! SUPPORT. One lemma per shared operation over registers, the stack and the engine: everything it can do. -/

namespace Sys2Proof.Machine

/-! ## Registers (10_state.md rules R20, R21, R24) -/

@[simp] theorem State.reg_setReg (s : State) (r j : Reg) (b : Byte) :
    (s.setReg r b).reg j = if j = r then b else s.reg j := by
  simp only [State.reg, State.setReg_v, Vector.getElem_set, Fin.ext_iff, eq_comm]

@[simp] theorem State.reg_setFlag (s : State) (b : Bool) (j : Reg) :
    (s.setFlag b).reg j = if j = regVF then flagByte b else s.reg j := State.reg_setReg ..

@[simp] theorem State.reg_setSubFlag (s : State) (p q : Byte) (j : Reg) :
    (s.setSubFlag p q).reg j = if j = regVF ∧ q.toNat < p.toNat then 1#8 else s.reg j := by
  unfold State.setSubFlag
  by_cases h : q.toNat < p.toNat <;> simp [exceeds, h, flagByte]

@[simp] theorem State.reg_endWait (s : State) (k : Nibble) (j : Reg) :
    (s.endWait k).reg j = if j = s.waitReg then k.setWidth 8 else s.reg j := by
  simp only [State.reg, State.endWait_v, Vector.getElem_set, Fin.ext_iff, eq_comm]

theorem getElem_regsWritten (v : Vector Byte 16) (k : Nat) (bs : List Byte) (j : Nat) (hj : j < 16) :
    (regsWritten v k bs)[j] = if h : k ≤ j ∧ j - k < bs.length then bs[j - k] else v[j] := by
  induction bs generalizing v k with
  | nil => simp [regsWritten]
  | cons b bs ih =>
    rw [regsWritten, ih, Vector.getElem_setIfInBounds]
    by_cases h0 : k = j
    · subst h0
      simp
    · by_cases h1 : k < j
      · have h2 : j - k = (j - (k + 1)) + 1 := by omega
        simp only [h2, List.length_cons, List.getElem_cons_succ, h0, if_false, Nat.add_lt_add_iff_right]
        split_ifs <;> first | rfl | omega
      · rw [dif_neg (by omega), dif_neg (by omega)]
        simp [h0]

/-- `V[0]`, `V[1]`, … take the bytes; registers past the last byte keep theirs (20_memory.md rule R57). -/
theorem State.reg_setRegs (s : State) (bs : List Byte) (j : Reg) :
    (s.setRegs bs).reg j = if h : j.val < bs.length then bs[j.val] else s.reg j := by
  simp [State.reg, getElem_regsWritten]

@[simp] theorem State.index_setIndex (s : State) (a : Addr) : (s.setIndex a).index = a := by
  simp [State.index]

/-- The registers a block copy stores, V0 first. -/
theorem State.length_regsUpTo (s : State) (x : Reg) : (s.regsUpTo x).length = x.val + 1 := by
  have := x.isLt
  simp [State.regsUpTo, copyCount]

theorem State.getElem_regsUpTo (s : State) (x : Reg) (k : Nat) (h : k < (s.regsUpTo x).length) :
    (s.regsUpTo x)[k] = s.reg ⟨k, by rw [State.length_regsUpTo] at h; omega⟩ := by
  simp [State.regsUpTo, State.reg]

/-! ## The call stack (10_state.md rules R25, R26) -/

@[simp] theorem State.pc_setPc (s : State) (a : Addr) : (s.setPc a).pc = a := by simp [State.pc]

@[simp] theorem State.entry_setPc (s : State) (a : Addr) (j : Fin 16) :
    (s.setPc a).entry j = if j = s.sp then a else s.entry j := by
  simp only [State.entry, State.setPc_stack, Vector.getElem_set, Fin.ext_iff, eq_comm]

@[simp] theorem State.pc_advance (s : State) : s.advance.pc = s.pc + 2#12 := State.pc_setPc ..

@[simp] theorem State.entry_advance (s : State) (j : Fin 16) :
    s.advance.entry j = if j = s.sp then s.pc + 2#12 else s.entry j := State.entry_setPc ..

@[simp] theorem State.pc_skipIf (s : State) (b : Bool) : (s.skipIf b).pc = s.pc + if b then 4#12 else 2#12 := by
  cases b <;> simp [State.skipIf]

@[simp] theorem State.entry_skipIf (s : State) (b : Bool) (j : Fin 16) :
    (s.skipIf b).entry j = if j = s.sp then s.pc + (if b then 4#12 else 2#12) else s.entry j := by
  cases b <;> simp [State.skipIf]

@[simp] theorem State.pc_pushFrame (s : State) (a : Addr) : (s.pushFrame a).pc = a := by simp [State.pc]

@[simp] theorem State.entry_pushFrame (s : State) (a : Addr) (j : Fin 16) :
    (s.pushFrame a).entry j = if j = s.sp + 1 then a else s.entry j := by
  simp only [State.entry, State.pushFrame_stack, Vector.getElem_set, Fin.ext_iff, eq_comm]

theorem State.pc_popFrame (s : State) : s.popFrame.pc = s.entry (s.sp - 1) := rfl

/-- The program counter is the active frame's entry (R26). -/
theorem State.pc_eq_entry (s : State) : s.pc = s.entry s.sp := rfl

/-- Writing the program counter with the value it holds changes nothing. -/
@[simp] theorem State.setPc_pc (s : State) : s.setPc s.pc = s := by simp [State.setPc, State.pc]

/-! ## Conditions, the tick and the events -/

@[simp] theorem State.halted_raise (s : State) (f : FatalFault) : (s.raise f).halted = true := rfl

theorem State.halted_eq_false (s : State) : s.halted = false ↔ s.fault = none := by simp [State.halted]

/-- The tick takes one from a timer that is not at zero (40_engine_cycle.md rule R91). -/
theorem toNat_countDown (b : Byte) : (countDown b).toNat = b.toNat - 1 := by
  unfold countDown
  split_ifs with h
  · simp [h]
  · have : b.toNat ≠ 0 := fun h0 => h (BitVec.eq_of_toNat_eq h0)
    bv_omega

/-- A Load is one of three things: refused, OutOfBounds, or the whole copy (R105). -/
theorem State.load_cases (s : State) (bs : List Byte) :
    (¬ (s.fault = none ∧ s.mode = .initializing) ∧ s.load bs = s) ∨
      ((s.fault = none ∧ s.mode = .initializing) ∧ slicePasses s.pc bs.length ∧ s.load bs = s.raise .outOfBounds) ∨
      ((s.fault = none ∧ s.mode = .initializing) ∧ ¬ slicePasses s.pc bs.length ∧
        s.load bs = s.setMem (s.mem.writeBytes s.pc bs)) := by
  unfold State.load
  by_cases h : s.fault = none ∧ s.mode = .initializing
  · rcases s.mem.storeSlice_eq s.pc bs with ⟨hp, e⟩ | ⟨hp, e⟩
    · exact .inr (.inl ⟨h, hp, by rw [if_pos h, e]⟩)
    · refine .inr (.inr ⟨h, hp, ?_⟩)
      rw [if_pos h, e]
      cases s
      simp_all [State.setMode, State.setMem]
  · exact .inl ⟨h, by rw [if_neg h]⟩

/-- A cycle is one of four things: nothing when halted, an executing cycle, a waiting cycle, or the tick alone (R90). -/
theorem cycle_cases (s : State) :
    (s.fault ≠ none ∧ cycle s = .next s) ∨
      (s.fault = none ∧ (s.mode = .initializing ∨ s.mode = .executing) ∧ cycle s = execCycle s.tick) ∨
      (s.fault = none ∧ s.mode = .waitingForKey ∧ cycle s = .next s.tick.waitCycle) ∨
      (s.fault = none ∧ (s.mode = .paused ∨ s.mode = .loadingROM) ∧ cycle s = .next s.tick) := by
  cases hf : s.fault with
  | some f => exact .inl ⟨by simp, by simp [cycle, State.halted, hf]⟩
  | none => cases hm : s.mode <;> simp [cycle, State.halted, hf, modeWork, hm]

/-- A waiting cycle either ends the wait with the key in the slot or changes nothing (R181). -/
theorem State.waitCycle_cases (s : State) :
    (s.kbd = none ∧ s.waitCycle = s) ∨ (∃ k, s.kbd = some k ∧ s.waitCycle = s.endWait k) := by
  cases h : s.kbd <;> simp [State.waitCycle, h]

end Sys2Proof.Machine
end

