-- ==== Sys2Proof/Laws/Draw.lean ====
section
/-! SUPPORT. What the sprite engine does (44_draw.md rules R167, R168). -/

namespace Sys2Proof.Machine

/-- How far below row `r` a row lies, wrapping after row 31. -/
abbrev rowsBelow (r k : Fin 32) : Nat := (k - r).val

theorem rowsBelow_succ {r k : Fin 32} (h : k ≠ r) : rowsBelow r k = rowsBelow (r + 1) k + 1 := by
  revert r k; decide

theorem rowsBelow_self_succ (r : Fin 32) : rowsBelow (r + 1) r = 31 := by
  revert r; decide

/-- A draw of at most 32 rows XORs row j of the sprite into the scan line j below the start and leaves every other scan
line alone (R168). -/
theorem drawRows_row (fb : Vector Scanline 32) (px : Byte) (r k : Fin 32) (bs : List Byte) (hl : bs.length ≤ 32) :
    (drawRows fb px r bs).1[k.val] =
      if h : rowsBelow r k < bs.length then fb[k.val] ^^^ rowMask bs[rowsBelow r k] px else fb[k.val] := by
  induction bs generalizing fb r with
  | nil => simp [drawRows]
  | cons b bs ih =>
    have hl' : bs.length + 1 ≤ 32 := by simpa using hl
    simp only [drawRows]
    rw [ih _ _ (by omega), Vector.getElem_set]
    by_cases hk : k = r
    · subst hk
      rw [dif_neg (by rw [rowsBelow_self_succ]; omega)]
      simp [rowsBelow]
    · have hv : ¬ r.val = k.val := fun h => hk (Fin.ext h.symm)
      simp only [rowsBelow_succ hk, List.length_cons, Nat.add_lt_add_iff_right, hv, if_false,
        List.getElem_cons_succ]

/-- The collision flag of a draw of at most 32 rows: some sprite row shared a lit pixel with the scan line it fell on,
as that line was before the draw (R168). -/
theorem drawRows_collides (fb : Vector Scanline 32) (px : Byte) (r : Fin 32) (bs : List Byte) (hl : bs.length ≤ 32) :
    (drawRows fb px r bs).2 = true ↔
      ∃ k : Fin 32, ∃ h : rowsBelow r k < bs.length, fb[k.val] &&& rowMask bs[rowsBelow r k] px ≠ 0#64 := by
  induction bs generalizing fb r with
  | nil => simp [drawRows]
  | cons b bs ih =>
    have hl' : bs.length + 1 ≤ 32 := by simpa using hl
    simp only [drawRows, Bool.or_eq_true, bne_iff_ne]
    rw [ih _ _ (by omega)]
    constructor
    · rintro (h | ⟨k, hk, h⟩)
      · exact ⟨r, by simp [rowsBelow], by simpa [rowsBelow] using h⟩
      · have hne : k ≠ r := by
          rintro rfl
          rw [rowsBelow_self_succ] at hk
          omega
        have hv : ¬ r.val = k.val := fun h => hne (Fin.ext h.symm)
        refine ⟨k, by rw [rowsBelow_succ hne]; simpa using hk, ?_⟩
        simp only [rowsBelow_succ hne, List.getElem_cons_succ]
        simpa [Vector.getElem_set, hv] using h
    · rintro ⟨k, hk, h⟩
      by_cases hne : k = r
      · subst hne
        exact .inl (by simpa [rowsBelow] using h)
      · have hv : ¬ r.val = k.val := fun h => hne (Fin.ext h.symm)
        simp only [rowsBelow_succ hne, List.length_cons, Nat.add_lt_add_iff_right] at hk
        refine .inr ⟨k, hk, ?_⟩
        simp only [rowsBelow_succ hne, List.getElem_cons_succ] at h
        simpa [Vector.getElem_set, hv] using h

end Sys2Proof.Machine
end

