-- ==== Sys2Proof/Laws/Encoding.lean ====
section
/-! SUPPORT. What each field of a word reads back from each encoding format (30_encoding.md rules R72, R82), and what the
opcode table's masks leave of it; what the canonical term of R77 keeps. -/

namespace Sys2Proof

/-! ## Format A -/

theorem fieldFam_wordA (fam : BitVec 4) (nnn : Addr) : fieldFam (wordA fam nnn) = fam := by
  unfold fieldFam wordA
  refine BitVec.eq_of_getLsbD_eq fun i hi => ?_
  rw [BitVec.getLsbD_extractLsb', BitVec.getLsbD_append]
  interval_cases i <;> simp

theorem fieldNNN_wordA (fam : BitVec 4) (nnn : Addr) : fieldNNN (wordA fam nnn) = nnn := by
  unfold fieldNNN wordA
  refine BitVec.eq_of_getLsbD_eq fun i hi => ?_
  rw [BitVec.getLsbD_extractLsb', BitVec.getLsbD_append]
  interval_cases i <;> simp

/-! ## Format XB -/

theorem fieldFam_wordXB (fam : BitVec 4) (x : Reg) (nn : Byte) : fieldFam (wordXB fam x nn) = fam := by
  unfold fieldFam wordXB
  refine BitVec.eq_of_getLsbD_eq fun i hi => ?_
  rw [BitVec.getLsbD_extractLsb']
  iterate 2 rw [BitVec.getLsbD_append]
  interval_cases i <;> simp

theorem fieldX_wordXB (fam : BitVec 4) (x : Reg) (nn : Byte) : fieldX (wordXB fam x nn) = x := by
  have h : (wordXB fam x nn).extractLsb' 8 4 = regBits x := by
    unfold wordXB
    refine BitVec.eq_of_getLsbD_eq fun i hi => ?_
    rw [BitVec.getLsbD_extractLsb']
    iterate 2 rw [BitVec.getLsbD_append]
    interval_cases i <;> simp
  unfold fieldX
  rw [h]
  rfl

theorem fieldNN_wordXB (fam : BitVec 4) (x : Reg) (nn : Byte) : fieldNN (wordXB fam x nn) = nn := by
  unfold fieldNN wordXB
  refine BitVec.eq_of_getLsbD_eq fun i hi => ?_
  rw [BitVec.getLsbD_extractLsb']
  iterate 2 rw [BitVec.getLsbD_append]
  interval_cases i <;> simp

/-! ## Formats XY and XYN -/

theorem fieldFam_wordXYN (fam : BitVec 4) (x y : Reg) (n : Nibble) : fieldFam (wordXYN fam x y n) = fam := by
  unfold fieldFam wordXYN
  refine BitVec.eq_of_getLsbD_eq fun i hi => ?_
  rw [BitVec.getLsbD_extractLsb']
  iterate 3 rw [BitVec.getLsbD_append]
  interval_cases i <;> simp

theorem fieldX_wordXYN (fam : BitVec 4) (x y : Reg) (n : Nibble) : fieldX (wordXYN fam x y n) = x := by
  have h : (wordXYN fam x y n).extractLsb' 8 4 = regBits x := by
    unfold wordXYN
    refine BitVec.eq_of_getLsbD_eq fun i hi => ?_
    rw [BitVec.getLsbD_extractLsb']
    iterate 3 rw [BitVec.getLsbD_append]
    interval_cases i <;> simp
  unfold fieldX
  rw [h]
  rfl

theorem fieldY_wordXYN (fam : BitVec 4) (x y : Reg) (n : Nibble) : fieldY (wordXYN fam x y n) = y := by
  have h : (wordXYN fam x y n).extractLsb' 4 4 = regBits y := by
    unfold wordXYN
    refine BitVec.eq_of_getLsbD_eq fun i hi => ?_
    rw [BitVec.getLsbD_extractLsb']
    iterate 3 rw [BitVec.getLsbD_append]
    interval_cases i <;> simp
  unfold fieldY
  rw [h]
  rfl

theorem fieldN_wordXYN (fam : BitVec 4) (x y : Reg) (n : Nibble) : fieldN (wordXYN fam x y n) = n := by
  unfold fieldN wordXYN
  refine BitVec.eq_of_getLsbD_eq fun i hi => ?_
  rw [BitVec.getLsbD_extractLsb']
  iterate 3 rw [BitVec.getLsbD_append]
  interval_cases i <;> simp

/-! ## Under the table's masks -/

theorem wordA_and_family (fam : BitVec 4) (nnn : Addr) : wordA fam nnn &&& 0xF000#16 = wordA fam 0#12 := by
  unfold wordA
  refine BitVec.eq_of_getLsbD_eq fun i hi => ?_
  rw [BitVec.getLsbD_and, BitVec.getLsbD_append, BitVec.getLsbD_append]
  interval_cases i <;> simp

theorem wordXB_and_family (fam : BitVec 4) (x : Reg) (nn : Byte) :
    wordXB fam x nn &&& 0xF000#16 = wordA fam 0#12 := by
  unfold wordXB wordA
  refine BitVec.eq_of_getLsbD_eq fun i hi => ?_
  rw [BitVec.getLsbD_and]
  iterate 3 rw [BitVec.getLsbD_append]
  interval_cases i <;> simp

theorem wordXB_and_byte (fam : BitVec 4) (x : Reg) (nn : Byte) :
    wordXB fam x nn &&& 0xF0FF#16 = wordXB fam 0 nn := by
  unfold wordXB regBits
  refine BitVec.eq_of_getLsbD_eq fun i hi => ?_
  rw [BitVec.getLsbD_and]
  iterate 4 rw [BitVec.getLsbD_append]
  interval_cases i <;> simp

theorem wordXYN_and_family (fam : BitVec 4) (x y : Reg) (n : Nibble) :
    wordXYN fam x y n &&& 0xF000#16 = wordA fam 0#12 := by
  unfold wordXYN wordA
  refine BitVec.eq_of_getLsbD_eq fun i hi => ?_
  rw [BitVec.getLsbD_and]
  iterate 4 rw [BitVec.getLsbD_append]
  interval_cases i <;> simp

theorem wordXYN_and_nibble (fam : BitVec 4) (x y : Reg) (n : Nibble) :
    wordXYN fam x y n &&& 0xF00F#16 = wordXYN fam 0 0 n := by
  unfold wordXYN regBits
  refine BitVec.eq_of_getLsbD_eq fun i hi => ?_
  rw [BitVec.getLsbD_and]
  iterate 6 rw [BitVec.getLsbD_append]
  interval_cases i <;> simp

/-- A word is the concatenation of its family, its two register fields and its bottom nibble (R72). -/
theorem eq_wordXYN_of_fields (w : Word) : w = wordXYN (fieldFam w) (fieldX w) (fieldY w) (fieldN w) := by
  have hx : regBits (fieldX w) = w.extractLsb' 8 4 := rfl
  have hy : regBits (fieldY w) = w.extractLsb' 4 4 := rfl
  unfold wordXYN
  rw [hx, hy]
  unfold fieldFam fieldN
  refine BitVec.eq_of_getLsbD_eq fun i hi => ?_
  iterate 3 rw [BitVec.getLsbD_append]
  simp only [BitVec.getLsbD_extractLsb']
  interval_cases i <;> simp

/-- The two bytes of a word in memory order read back as the word (20_memory.md rule R54). -/
theorem wordOfBytes_highByte_lowByte (w : Word) : wordOfBytes (highByte w) (lowByte w) = w := by
  unfold wordOfBytes highByte lowByte
  refine BitVec.eq_of_getLsbD_eq fun i hi => ?_
  rw [BitVec.getLsbD_append]
  simp only [BitVec.getLsbD_extractLsb']
  interval_cases i <;> simp

theorem wordBytes_eq (w : Word) : wordBytes w = [highByte w, lowByte w] := rfl

/-! ## The canonical term (rule R77) -/

@[simp] theorem Instr.canonical_canonical (i : Instr) : i.canonical.canonical = i.canonical := by cases i <;> rfl

@[simp] theorem Instr.wellFormed_canonical (i : Instr) : i.canonical.wellFormed = i.wellFormed := by cases i <;> rfl

/-- An instruction is its own canonical term, or a shift whose y becomes 0. -/
theorem Instr.canonical_cases (i : Instr) :
    i.canonical = i ∨ (∃ x y, i = .shr x y ∧ i.canonical = .shr x 0) ∨
      (∃ x y, i = .shl x y ∧ i.canonical = .shl x 0) := by
  cases i <;> first | exact .inl rfl | exact .inr (.inl ⟨_, _, rfl, rfl⟩) | exact .inr (.inr ⟨_, _, rfl, rfl⟩)

end Sys2Proof
end

