-- ==== Sys2Proof/Laws/PerInstr.lean ====
section
/-! SUPPORT. The family TableRow: every instruction's word, under the mask of its row of spec/opcode_table.json, is the
row's match (30_encoding.md rules R75, R82). -/

namespace Sys2Proof.Laws.TableRow

/-- The row's `mask`. -/
def rowMask : Instr → Word
  | .cls => 0xFFFF#16
  | .ret => 0xFFFF#16
  | .sys _ => 0xF000#16
  | .jp _ => 0xF000#16
  | .call _ => 0xF000#16
  | .seB _ _ => 0xF000#16
  | .sneB _ _ => 0xF000#16
  | .seR _ _ => 0xF000#16
  | .ldB _ _ => 0xF000#16
  | .addB _ _ => 0xF000#16
  | .ldR _ _ => 0xF00F#16
  | .orR _ _ => 0xF00F#16
  | .andR _ _ => 0xF00F#16
  | .xorR _ _ => 0xF00F#16
  | .addR _ _ => 0xF00F#16
  | .sub _ _ => 0xF00F#16
  | .shr _ _ => 0xF00F#16
  | .subn _ _ => 0xF00F#16
  | .shl _ _ => 0xF00F#16
  | .sneR _ _ => 0xF000#16
  | .ldI _ => 0xF000#16
  | .jpV0 _ => 0xF000#16
  | .rnd _ _ => 0xF000#16
  | .drw _ _ _ => 0xF000#16
  | .skp _ => 0xF0FF#16
  | .sknp _ => 0xF0FF#16
  | .ldVDt _ => 0xF0FF#16
  | .ldK _ => 0xF0FF#16
  | .ldDt _ => 0xF0FF#16
  | .ldSt _ => 0xF0FF#16
  | .addI _ => 0xF0FF#16
  | .ldF _ => 0xF0FF#16
  | .ldBcd _ => 0xF0FF#16
  | .stRegs _ => 0xF0FF#16
  | .ldRegs _ => 0xF0FF#16

/-- The row's `match`. -/
def rowMatch : Instr → Word
  | .cls => 0x00E0#16
  | .ret => 0x00EE#16
  | .sys _ => 0x0000#16
  | .jp _ => 0x1000#16
  | .call _ => 0x2000#16
  | .seB _ _ => 0x3000#16
  | .sneB _ _ => 0x4000#16
  | .seR _ _ => 0x5000#16
  | .ldB _ _ => 0x6000#16
  | .addB _ _ => 0x7000#16
  | .ldR _ _ => 0x8000#16
  | .orR _ _ => 0x8001#16
  | .andR _ _ => 0x8002#16
  | .xorR _ _ => 0x8003#16
  | .addR _ _ => 0x8004#16
  | .sub _ _ => 0x8005#16
  | .shr _ _ => 0x8006#16
  | .subn _ _ => 0x8007#16
  | .shl _ _ => 0x800E#16
  | .sneR _ _ => 0x9000#16
  | .ldI _ => 0xA000#16
  | .jpV0 _ => 0xB000#16
  | .rnd _ _ => 0xC000#16
  | .drw _ _ _ => 0xD000#16
  | .skp _ => 0xE09E#16
  | .sknp _ => 0xE0A1#16
  | .ldVDt _ => 0xF007#16
  | .ldK _ => 0xF00A#16
  | .ldDt _ => 0xF015#16
  | .ldSt _ => 0xF018#16
  | .addI _ => 0xF01E#16
  | .ldF _ => 0xF029#16
  | .ldBcd _ => 0xF033#16
  | .stRegs _ => 0xF055#16
  | .ldRegs _ => 0xF065#16

/-- The word of the instruction matches its row of the opcode table. -/
def Statement (i : Instr) : Prop := encode i &&& rowMask i = rowMatch i

theorem cls : Statement (.cls) := rfl
theorem ret : Statement (.ret) := rfl
theorem sys (nnn : Addr) : Statement (.sys nnn) := (wordA_and_family ..).trans rfl
theorem jp (nnn : Addr) : Statement (.jp nnn) := (wordA_and_family ..).trans rfl
theorem call (nnn : Addr) : Statement (.call nnn) := (wordA_and_family ..).trans rfl
theorem seB (x : Reg) (nn : Byte) : Statement (.seB x nn) := (wordXB_and_family ..).trans rfl
theorem sneB (x : Reg) (nn : Byte) : Statement (.sneB x nn) := (wordXB_and_family ..).trans rfl
theorem seR (x : Reg) (y : Reg) : Statement (.seR x y) := (wordXYN_and_family ..).trans rfl
theorem ldB (x : Reg) (nn : Byte) : Statement (.ldB x nn) := (wordXB_and_family ..).trans rfl
theorem addB (x : Reg) (nn : Byte) : Statement (.addB x nn) := (wordXB_and_family ..).trans rfl
theorem ldR (x : Reg) (y : Reg) : Statement (.ldR x y) := (wordXYN_and_nibble ..).trans rfl
theorem orR (x : Reg) (y : Reg) : Statement (.orR x y) := (wordXYN_and_nibble ..).trans rfl
theorem andR (x : Reg) (y : Reg) : Statement (.andR x y) := (wordXYN_and_nibble ..).trans rfl
theorem xorR (x : Reg) (y : Reg) : Statement (.xorR x y) := (wordXYN_and_nibble ..).trans rfl
theorem addR (x : Reg) (y : Reg) : Statement (.addR x y) := (wordXYN_and_nibble ..).trans rfl
theorem sub (x : Reg) (y : Reg) : Statement (.sub x y) := (wordXYN_and_nibble ..).trans rfl
theorem shr (x : Reg) (y : Reg) : Statement (.shr x y) := (wordXYN_and_nibble ..).trans rfl
theorem subn (x : Reg) (y : Reg) : Statement (.subn x y) := (wordXYN_and_nibble ..).trans rfl
theorem shl (x : Reg) (y : Reg) : Statement (.shl x y) := (wordXYN_and_nibble ..).trans rfl
theorem sneR (x : Reg) (y : Reg) : Statement (.sneR x y) := (wordXYN_and_family ..).trans rfl
theorem ldI (nnn : Addr) : Statement (.ldI nnn) := (wordA_and_family ..).trans rfl
theorem jpV0 (nnn : Addr) : Statement (.jpV0 nnn) := (wordA_and_family ..).trans rfl
theorem rnd (x : Reg) (nn : Byte) : Statement (.rnd x nn) := (wordXB_and_family ..).trans rfl
theorem drw (x : Reg) (y : Reg) (n : Nibble) : Statement (.drw x y n) := (wordXYN_and_family ..).trans rfl
theorem skp (x : Reg) : Statement (.skp x) := (wordXB_and_byte ..).trans rfl
theorem sknp (x : Reg) : Statement (.sknp x) := (wordXB_and_byte ..).trans rfl
theorem ldVDt (x : Reg) : Statement (.ldVDt x) := (wordXB_and_byte ..).trans rfl
theorem ldK (x : Reg) : Statement (.ldK x) := (wordXB_and_byte ..).trans rfl
theorem ldDt (x : Reg) : Statement (.ldDt x) := (wordXB_and_byte ..).trans rfl
theorem ldSt (x : Reg) : Statement (.ldSt x) := (wordXB_and_byte ..).trans rfl
theorem addI (x : Reg) : Statement (.addI x) := (wordXB_and_byte ..).trans rfl
theorem ldF (x : Reg) : Statement (.ldF x) := (wordXB_and_byte ..).trans rfl
theorem ldBcd (x : Reg) : Statement (.ldBcd x) := (wordXB_and_byte ..).trans rfl
theorem stRegs (x : Reg) : Statement (.stRegs x) := (wordXB_and_byte ..).trans rfl
theorem ldRegs (x : Reg) : Statement (.ldRegs x) := (wordXB_and_byte ..).trans rfl

end Sys2Proof.Laws.TableRow
end

