-- ==== Sys2Proof/Tests/Slice0.lean ====
section
/-! SUPPORT. Tests: expected results are taken from the worked decodings of 30_encoding.md section 5, the vectors of
95_test_vectors.md (the table is named at each group), or by hand from a rule. Then, for every statement with
hypotheses, a witness that meets them. -/

namespace Sys2Proof.Tests

open Sys2Proof Sys2Proof.Machine

/-- The machine after one step that runs the given word from a state, if it answers a next state. -/
def run (s : State) (w : Nat) : Option State :=
  match step (s.withFetchWord 16 w) with
  | .next t => some t
  | _ => none

/-- The machine after one event. -/
def after (e : HostEvent) (s : State) : Option State :=
  match performEvent e s with
  | .next t => some t
  | _ => none

/-- The state after reset with two registers set. -/
def with2 (x : Reg) (a : Byte) (y : Reg) (b : Byte) : State := (State.reset.setReg x a).setReg y b

/-- The state after reset with the index register set and one byte stored there. -/
def withByte (a : Addr) (b : Byte) : State := (State.reset.setIndex a).setMem (State.reset.mem.write a b)

/-- The state after reset in the middle of a wait for key 2 (K3). -/
def waiting : State := (State.reset.startWait 2).advance

/-- The state after reset with a given depth of the call stack and a program counter. -/
def atDepth (d : Fin 16) (a : Addr) : State := { State.reset with sp := d, stack := State.reset.stack.set d.val a }

/-! ## WellFormed: the terms no word stands for -/

theorem test_wellFormed_refuses_sys_of_cls : (Instr.sys 0x0E0#12).wellFormed = false := by decide
theorem test_wellFormed_refuses_sys_of_ret : (Instr.sys 0x0EE#12).wellFormed = false := by decide
theorem test_wellFormed_accepts_sys : (Instr.sys 0x0E1#12).wellFormed = true := by decide

/-! ## Decoding: a word per constructor, written out from the formats of R73 and the map of R75 -/

theorem test_decode_cls : decode 0b0000_0000_1110_0000#16 = .instr .cls := by decide
theorem test_decode_ret : decode 0b0000_0000_1110_1110#16 = .instr .ret := by decide
theorem test_decode_sys : decode 0b0000_0000_1110_0001#16 = .instr (.sys 0x0E1#12) := by decide
theorem test_decode_jp : decode 0b0001_0000_1110_0000#16 = .instr (.jp 0x0E0#12) := by decide
theorem test_decode_call : decode 0b0010_0011_0000_0000#16 = .instr (.call 0x300#12) := by decide
theorem test_decode_seB : decode 0b0011_1010_0100_0010#16 = .instr (.seB 10 0x42#8) := by decide
theorem test_decode_sneB : decode 0b0100_1010_0100_0010#16 = .instr (.sneB 10 0x42#8) := by decide
theorem test_decode_seR : decode 0b0101_0001_0010_0111#16 = .instr (.seR 1 2) := by decide
theorem test_decode_ldB : decode 0b0110_0000_0000_0101#16 = .instr (.ldB 0 0x05#8) := by decide
theorem test_decode_addB : decode 0b0111_0000_0000_0011#16 = .instr (.addB 0 0x03#8) := by decide
theorem test_decode_ldR : decode 0b1000_1010_1011_0000#16 = .instr (.ldR 10 11) := by decide
theorem test_decode_orR : decode 0b1000_1010_1011_0001#16 = .instr (.orR 10 11) := by decide
theorem test_decode_andR : decode 0b1000_1010_1011_0010#16 = .instr (.andR 10 11) := by decide
theorem test_decode_xorR : decode 0b1000_1010_1011_0011#16 = .instr (.xorR 10 11) := by decide
theorem test_decode_addR : decode 0b1000_1010_1011_0100#16 = .instr (.addR 10 11) := by decide
theorem test_decode_sub : decode 0b1000_1010_1011_0101#16 = .instr (.sub 10 11) := by decide
theorem test_decode_shr : decode 0b1000_1111_1111_0110#16 = .instr (.shr 15 15) := by decide
theorem test_decode_subn : decode 0b1000_1010_1011_0111#16 = .instr (.subn 10 11) := by decide
theorem test_decode_shl : decode 0b1000_1010_1011_1110#16 = .instr (.shl 10 11) := by decide
theorem test_decode_sneR : decode 0b1001_1010_1011_0111#16 = .instr (.sneR 10 11) := by decide
theorem test_decode_ldI : decode 0b1010_0011_0000_0000#16 = .instr (.ldI 0x300#12) := by decide
theorem test_decode_jpV0 : decode 0b1011_0011_0000_0000#16 = .instr (.jpV0 0x300#12) := by decide
theorem test_decode_rnd : decode 0b1100_1111_1111_1111#16 = .instr (.rnd 15 0xFF#8) := by decide
theorem test_decode_drw : decode 0b1101_0000_0001_0101#16 = .instr (.drw 0 1 5#4) := by decide
theorem test_decode_skp : decode 0b1110_0011_1001_1110#16 = .instr (.skp 3) := by decide
theorem test_decode_sknp : decode 0b1110_0000_1010_0001#16 = .instr (.sknp 0) := by decide
theorem test_decode_ldVDt : decode 0b1111_0011_0000_0111#16 = .instr (.ldVDt 3) := by decide
theorem test_decode_ldK : decode 0b1111_0010_0000_1010#16 = .instr (.ldK 2) := by decide
theorem test_decode_ldDt : decode 0b1111_0001_0001_0101#16 = .instr (.ldDt 1) := by decide
theorem test_decode_ldSt : decode 0b1111_0001_0001_1000#16 = .instr (.ldSt 1) := by decide
theorem test_decode_addI : decode 0b1111_0010_0001_1110#16 = .instr (.addI 2) := by decide
theorem test_decode_ldF : decode 0b1111_0011_0010_1001#16 = .instr (.ldF 3) := by decide
theorem test_decode_ldBcd : decode 0b1111_0100_0011_0011#16 = .instr (.ldBcd 4) := by decide
theorem test_decode_stRegs : decode 0b1111_0010_0101_0101#16 = .instr (.stRegs 2) := by decide
theorem test_decode_ldRegs : decode 0b1111_0010_0110_0101#16 = .instr (.ldRegs 2) := by decide
theorem test_decode_invalid_family8 : decode 0b1000_1010_1011_1000#16 = .invalid 0x8AB8#16 := by decide
theorem test_decode_invalid_familyE : decode 0b1110_0011_0000_0000#16 = .invalid 0xE300#16 := by decide
theorem test_decode_invalid_familyF : decode 0b1111_0010_0110_0110#16 = .invalid 0xF266#16 := by decide

theorem test_decodeBytes_is_big_endian :
    decodeBytes [0x8A#8, 0xB4#8, 0x77#8] = some (.instr (.addR 10 11), [0x77#8]) := by decide
theorem test_decodeTableWord : decodeTableWord 16 0xD015 = some (.drw 0 1 5#4) := by decide
theorem test_decodeTableWord_refuses : decodeTableWord 16 0xF266 = none := by decide
/-- R82's example: `ADD V0, 0x03` is stored as bytes 70 03. -/
theorem test_assembleBytes : assembleBytes (.addB 0 0x03#8) = [0x70#8, 0x03#8] := by decide
/-- R77: `SHR Vx` assembles to 8X06, whatever y the term holds, and `SHL Vx` to 8X0E. -/
theorem test_assemble_shifts : assemble (.shr 1 5) = 0x8106#16 ∧ assemble (.shl 15 7) = 0x8F0E#16 := by decide
theorem test_encode_keeps_y : encode (.shr 1 5) = 0x8156#16 := by decide
theorem test_encodeBytes : encodeBytes (.addB 0 0x03#8) = [0x70#8, 0x03#8] := by decide

/-! ## Assembly (R81, section 5 of 30_encoding.md) -/

theorem test_asm_add : (Instr.addR 10 11).asm = "ADD VA, VB" := by decide
theorem test_asm_shr : (Instr.shr 15 3).asm = "SHR VF" := by decide

/-! ## Register and ALU instructions (tables A1 to A7) -/

theorem test_ldB : (run State.reset 0x6AFF).map (·.reg 10) = some 0xFF#8 := by decide
theorem test_addB_wraps_without_flag :
    (run (with2 0 0xFF#8 15 0x55#8) 0x7001).map (fun t => (t.reg 0, t.reg 15)) = some (0x00#8, 0x55#8) := by decide
theorem test_ldR : (run (with2 1 0x01#8 2 0x9C#8) 0x8120).map (fun t => (t.reg 1, t.reg 2)) = some (0x9C#8, 0x9C#8) := by
  decide
theorem test_orR : (run (with2 1 0xA5#8 2 0x5A#8) 0x8121).map (·.reg 1) = some 0xFF#8 := by decide
theorem test_andR : (run (with2 1 0xA5#8 2 0x0F#8) 0x8122).map (·.reg 1) = some 0x05#8 := by decide
theorem test_xorR : (run (with2 1 0xFF#8 2 0x0F#8) 0x8123).map (·.reg 1) = some 0xF0#8 := by decide
theorem test_addR_carries :
    (run (with2 1 0xFF#8 2 0x01#8) 0x8124).map (fun t => (t.reg 1, t.reg 15)) = some (0x00#8, 0x01#8) := by decide
theorem test_addR_flag_is_last : (run (with2 15 0x10#8 1 0x20#8) 0x8F14).map (·.reg 15) = some 0x00#8 := by decide
theorem test_sub_flag_not_cleared :
    (run ((with2 1 0x33#8 2 0x33#8).setReg 15 0xAB#8) 0x8125).map (fun t => (t.reg 1, t.reg 15)) =
      some (0x00#8, 0xAB#8) := by decide
theorem test_sub_into_flag : (run (with2 15 0x04#8 1 0x09#8) 0x8F15).map (·.reg 15) = some 0xFB#8 := by decide
theorem test_subn_clears :
    (run ((with2 1 0x10#8 2 0x01#8).setReg 15 0x01#8) 0x8127).map (fun t => (t.reg 1, t.reg 15)) =
      some (0xF1#8, 0x00#8) := by decide
theorem test_subn_into_flag : (run (with2 15 0x04#8 1 0x09#8) 0x8F17).map (·.reg 15) = some 0x01#8 := by decide
theorem test_shr_ignores_y :
    (run (with2 1 0x81#8 2 0x7E#8) 0x8126).map (fun t => (t.reg 1, t.reg 2, t.reg 15)) =
      some (0x40#8, 0x7E#8, 0x01#8) := by decide
theorem test_shr_result_is_last : (run (with2 15 0x02#8 0 0#8) 0x8F06).map (·.reg 15) = some 0x01#8 := by decide
theorem test_shl : (run (with2 1 0xC1#8 2 0x01#8) 0x812E).map (fun t => (t.reg 1, t.reg 15)) =
    some (0x82#8, 0x01#8) := by decide
theorem test_shl_result_is_last : (run (with2 15 0x81#8 0 0#8) 0x8F0E).map (·.reg 15) = some 0x02#8 := by decide
/-- C000: mask 00 gives 00 for every byte drawn. -/
theorem test_rnd_mask_zero : ∃ t, exec (.rnd 0 0#8) State.reset = .next t ∧ t.reg 0 = 0#8 := ⟨_, rfl, by simp⟩

/-! ## Index and memory instructions (tables M1 to M5) -/

theorem test_ldI : (run State.reset 0xAFFF).map (·.index) = some 0xFFF#12 := by decide
theorem test_addI_wraps :
    (run ((with2 2 0xFF#8 15 0x07#8).setIndex 0xF80#12) 0xF21E).map (fun t => (t.index, t.reg 15)) =
      some (0x07F#12, 0x07#8) := by decide
theorem test_ldF_low_nibble : (run (State.reset.setReg 3 0x1A#8) 0xF329).map (·.index) = some 0x032#12 := by decide
theorem test_ldBcd :
    (run ((State.reset.setReg 0 0xFE#8).setIndex 0x300#12) 0xF033).map (fun t => t.mem.readBytes 0x300#12 3) =
      some [0x02#8, 0x05#8, 0x04#8] := by decide
theorem test_ldBcd_wraps :
    (run ((State.reset.setReg 0 0x7B#8).setIndex 0xFFE#12) 0xF033).map (fun t => t.mem.readBytes 0xFFE#12 3) =
      some [0x01#8, 0x02#8, 0x03#8] := by decide
theorem test_stRegs_at_the_top :
    (run ((State.reset.setReg 0 0x11#8).setIndex 0xFFF#12) 0xF055).map (fun t => (t.mem.read 0xFFF#12, t.index)) =
      some (0x11#8, 0x000#12) := by decide
theorem test_stRegs_out_of_bounds :
    (run ((with2 0 0x11#8 1 0x22#8).setIndex 0xFFF#12) 0xF155).map
        (fun t => (t.fault, t.faultAddr, t.pc, t.index, t.mem.readBytes 0xFFF#12 2)) =
      some (some .outOfBounds, 0x200#12, 0x200#12, 0xFFF#12, [0x00#8, 0xF0#8]) := by decide
theorem test_ldRegs_from_the_font :
    (run State.reset 0xF465).map (fun t => (t.reg 0, t.reg 1, t.reg 4, t.reg 5, t.index)) =
      some (0xF0#8, 0x90#8, 0xF0#8, 0x00#8, 0x005#12) := by decide
theorem test_ldRegs_out_of_bounds :
    (run ((with2 0 0x05#8 1 0x06#8).setIndex 0xFFF#12) 0xF165).map (fun t => (t.fault, t.reg 0, t.reg 1)) =
      some (some .outOfBounds, 0x05#8, 0x06#8) := by decide

/-! ## Control transfer (tables T1 to T4) -/

theorem test_sys_wraps : (run (atDepth 0 0xFFE#12) 0x0FFF).map (·.pc) = some 0x000#12 := by decide
theorem test_jp_odd : (run State.reset 0x1ABD).map (·.pc) = some 0xABD#12 := by decide
theorem test_jpV0_is_V0 : (run (with2 0 0x04#8 3 0x50#8) 0xB300).map (·.pc) = some 0x304#12 := by decide
theorem test_jpV0_wraps : (run (State.reset.setReg 0 0x02#8) 0xBFFF).map (·.pc) = some 0x001#12 := by decide
theorem test_call :
    (run State.reset 0x2300).map (fun t => (t.entry 0, t.sp, t.pc)) = some (0x202#12, 1, 0x300#12) := by decide
theorem test_call_overflows :
    (run (atDepth 15 0x250#12) 0x2300).map (fun t => (t.fault, t.faultAddr, t.sp, t.pc)) =
      some (some .stackOverflow, 0x250#12, 15, 0x250#12) := by decide
theorem test_ret :
    (run { atDepth 1 0x300#12 with stack := (atDepth 1 0x300#12).stack.set 0 0x202#12 } 0x00EE).map
        (fun t => (t.sp, t.pc, t.entry 1)) = some (0, 0x202#12, 0x300#12) := by decide
theorem test_ret_underflows :
    (run State.reset 0x00EE).map (fun t => (t.fault, t.faultAddr, t.pc, t.mode)) =
      some (some .stackUnderflow, 0x200#12, 0x200#12, .executing) := by decide
theorem test_seB_taken : (run (State.reset.setReg 10 0x42#8) 0x3A42).map (·.pc) = some 0x204#12 := by decide
theorem test_seB_at_the_top : (run (atDepth 0 0xFFE#12) 0x3000).map (·.pc) = some 0x002#12 := by decide
theorem test_sneB_not_taken : (run (State.reset.setReg 10 0x42#8) 0x4A42).map (·.pc) = some 0x202#12 := by decide
theorem test_sneB_taken : (run (State.reset.setReg 10 0x43#8) 0x4A42).map (·.pc) = some 0x204#12 := by decide
theorem test_seR_ignores_the_nibble :
    (run (with2 10 1#8 11 1#8) 0x5ABF).map (fun t => (t.pc, t.inv)) = some (0x204#12, false) := by decide
theorem test_seR_not_taken : (run (with2 10 1#8 11 2#8) 0x5AB0).map (·.pc) = some 0x202#12 := by decide
theorem test_sneR_taken : (run (with2 10 1#8 11 2#8) 0x9AB7).map (·.pc) = some 0x204#12 := by decide
theorem test_sneR_not_taken : (run (with2 10 1#8 11 1#8) 0x9AB0).map (·.pc) = some 0x202#12 := by decide
/-- T4: the fetch at the top of memory takes its second byte from address 0. -/
theorem test_fetch_wraps : (run (atDepth 0 0xFFF#12) 0x6012).map (fun t => (t.ir, t.reg 0, t.pc)) =
    some (0x6012#16, 0x12#8, 0x001#12) := by decide

/-! ## Drawing (table G) -/

theorem test_cls :
    (run ((State.reset.setReg 15 1#8).setFb (State.reset.fb.set 31 1#64)) 0x00E0).map
        (fun t => (t.row 31, t.reg 15)) = some (0#64, 1#8) := by decide
theorem test_drw_wraps :
    (run ((withByte 0x300#12 0xC0#8).setReg 1 0xFF#8 |>.setReg 2 0xFF#8) 0xD121).map
        (fun t => (t.row 31, t.row 30, t.reg 15)) = some (0x8000000000000001#64, 0#64, 0#8) := by decide
theorem test_drw_collides :
    (run ((withByte 0x300#12 0xFF#8).setFb (State.reset.fb.set 0 0x0100000000000000#64)) 0xD011).map
        (fun t => (t.row 0, t.reg 15)) = some (0xFE00000000000000#64, 1#8) := by decide
theorem test_rowMask_rotates : rowMask 0xFF#8 0x3C#8 = 0xF00000000000000F#64 := by decide

/-! ## Timers and keyboard (tables K1 to K3) -/

theorem test_ldVDt_reads_the_ticked_timer :
    (run (State.reset.setDt 0x10#8) 0xF307).map (fun t => (t.dt, t.reg 3)) = some (0x0F#8, 0x0F#8) := by decide
theorem test_ldDt_writes_after_the_tick :
    (run ((State.reset.setReg 0 0x3C#8).setDt 0x05#8) 0xF015).map (·.dt) = some 0x3C#8 := by decide
theorem test_ldSt : (run (((State.reset.setReg 1 5#8).setSt 9#8).setDt 3#8) 0xF118).map (fun t => (t.st, t.dt)) =
    some (5#8, 2#8) := by decide
theorem test_skp_low_nibble :
    (run ((State.reset.setReg 0 0x15#8).setKbd (some 5#4)) 0xE09E).map (·.pc) = some 0x204#12 := by decide
theorem test_skp_none_is_not_key_zero : (run State.reset 0xE09E).map (·.pc) = some 0x202#12 := by decide
theorem test_sknp_low_nibble :
    (run ((State.reset.setReg 0 0xF5#8).setKbd (some 5#4)) 0xE0A1).map (·.pc) = some 0x202#12 := by decide
theorem test_sknp_none : (run State.reset 0xE0A1).map (·.pc) = some 0x204#12 := by decide
theorem test_ldK :
    (run (State.reset.setKbd (some 3#4)) 0xF20A).map (fun t => (t.mode, t.waitReg, t.waitPending, t.pc, t.reg 2)) =
      some (.waitingForKey, 2, some 3#4, 0x202#12, 0#8) := by decide
theorem test_wait_ends :
    (after .cycle (waiting.setKbd (some 9#4))).map (fun t => (t.reg 2, t.mode, t.pc, t.waitPending)) =
      some (9#8, .executing, 0x202#12, some 9#4) := by decide

/-! ## The engine, the events and the conditions (tables H and X) -/

theorem test_first_step_from_reset :
    (after .cycle State.reset).map (fun t => (t.ir, t.mode, t.pc)) = some (0x0000#16, .executing, 0x202#12) := by decide
theorem test_invalid_is_reported :
    (run State.reset 0x8018).map (fun t => (t.inv, t.invWord, t.invAddr, t.pc, t.fault)) =
      some (true, 0x8018#16, 0x200#12, 0x202#12, none) := by decide
theorem test_load_places_bytes :
    (after (.load [0x62#8, 0x02#8]) State.reset).map (fun t => (t.mem.readBytes 0x200#12 3, t.mode)) =
      some ([0x62#8, 0x02#8, 0x00#8], .initializing) := by decide
theorem test_load_out_of_bounds :
    (after (.load [0xAA#8, 0xAA#8]) (atDepth 0 0xFFF#12)).map (fun t => (t.fault, t.faultAddr, t.mode)) =
      some (some .outOfBounds, 0xFFF#12, .initializing) := by decide
theorem test_load_refused_when_paused :
    (after (.load [0x60#8]) State.reset.pause).map (·.mem.read 0x200#12) = some 0x00#8 := by decide
theorem test_pressKey_low_nibble : (after (.pressKey 0x1B) State.reset).map (·.kbd) = some (some 0xB#4) := by decide
theorem test_releaseKeys : (after .releaseKeys (State.reset.setKbd (some 1#4))).map (·.kbd) = some none := by decide
theorem test_pause : (after .pause State.reset).map (fun t => (t.mode, t.resumeMode)) =
    some (.paused, .initializing) := by decide
/-- Table H: a second Pause has no effect on the latch. -/
theorem test_second_pause : (after .pause waiting.pause).map (fun t => (t.mode, t.resumeMode)) =
    some (.paused, .waitingForKey) := by decide
theorem test_paused_cycle_does_not_poll :
    (after .cycle (waiting.setKbd (some 5#4)).pause).map (fun t => (t.mode, t.reg 2)) = some (.paused, 0#8) := by decide
theorem test_resume : (after .resume waiting.pause).map (·.mode) = some .waitingForKey := by decide
theorem test_halted_cycle_does_not_tick :
    (after .cycle ((State.reset.setDt 8#8).raise .stackUnderflow)).map (·.dt) = some 8#8 := by decide
theorem test_reset_clears_the_fault :
    (after .reset (State.reset.raise .stackUnderflow)).map (fun t => (t.fault, t.mode, t.pc)) =
      some (none, .initializing, 0x200#12) := by decide
theorem test_readStatus :
    (((State.reset.latchInvalid 0x8018#16).setPc 0x202#12).raise .outOfBounds).readStatus =
      ⟨.initializing, some .outOfBounds, 0x202#12, true, 0x8018#16, 0x200#12, 0#8⟩ := by decide
theorem test_pending_event_is_taken :
    (match step { State.reset with inbox := [.pressKey 7, .cycle] } with
      | .next t => some (t.kbd, t.inbox, t.ir)
      | _ => none) = some (some 7#4, [.cycle], 0x0000#16) := by decide

/-! ## Witnesses: every statement's hypotheses can be met, at the boundaries of its clauses -/

theorem witness_DecodeEncodeRoundTrip : (Instr.drw 15 15 15#4).wellFormed = true := by decide
theorem witness_DecodedWordIsItsEncoding :
    decode 0x9AB7#16 = .instr (.sneR 10 11) ∧ fieldFam 0x9AB7#16 = 0x9#4 ∧
      0x9AB7#16 = (encode (.sneR 10 11) ||| (7#4).setWidth 16) := by decide
theorem witness_DecodedWordIsItsEncoding_itself :
    decode 0x8F06#16 = .instr (.shr 15 0) ∧ 0x8F06#16 = encode (.shr 15 0) := by decide
theorem witness_InvalidWordsExactly :
    decode 0x8ABF#16 = .invalid 0x8ABF#16 ∧ decode 0xE0A0#16 = .invalid 0xE0A0#16 ∧
      decode 0xF066#16 = .invalid 0xF066#16 ∧ decode 0x8ABE#16 ≠ .invalid 0x8ABE#16 := by decide
theorem witness_AssemblyIsCanonical :
    (∀ x y, Instr.seR 1 2 ≠ .shr x y) ∧ (∀ x y, Instr.seR 1 2 ≠ .shl x y) ∧ (Instr.shr 15 15).wellFormed = true :=
  ⟨by simp, by simp, by decide⟩
theorem witness_BlockStoreCopiesOrFaults_fits :
    (State.reset.setIndex 0xFF0#12).index.toNat + (15 : Reg).val + 1 ≤ 4096 := by decide
theorem witness_BlockStoreCopiesOrFaults_passes :
    (State.reset.setIndex 0xFF1#12).index.toNat + (15 : Reg).val + 1 > 4096 := by decide
theorem witness_BlockLoadCopiesOrFaults_fits :
    (State.reset.setIndex 0xFFF#12).index.toNat + (0 : Reg).val + 1 ≤ 4096 := by decide
theorem witness_BlockLoadCopiesOrFaults_passes :
    (State.reset.setIndex 0xFFF#12).index.toNat + (1 : Reg).val + 1 > 4096 := by decide
theorem witness_CallPushesOrOverflows_pushes : (atDepth 14 0x250#12).sp ≠ 15 := by decide
theorem witness_CallPushesOrOverflows_overflows : (atDepth 15 0x250#12).sp = 15 := by decide
theorem witness_ReturnPopsOrUnderflows_pops : (atDepth 1 0x300#12).sp ≠ 0 := by decide
theorem witness_ReturnPopsOrUnderflows_underflows : State.reset.sp = 0 := by decide
theorem witness_CallThenReturnComesBack : State.reset.sp ≠ 15 := by decide
theorem witness_DrawXorsEveryPixel : (State.reset.setIndex 0xFF1#12).index.toNat + (15#4).toNat ≤ 4096 := by decide
theorem witness_DrawTwiceRestoresAndCollides :
    (withByte 0xFFF#12 0x80#8).index.toNat + (1#4).toNat ≤ 4096 ∧ (0 : Reg) ≠ regVF ∧ (14 : Reg) ≠ regVF ∧
      (withByte 0xFFF#12 0x80#8).mem.read 0xFFF#12 ≠ 0#8 := by decide
theorem witness_DrawTwiceRestoresAndCollides_first_misses :
    (run (withByte 0x300#12 0x80#8) 0xD0E1).map (·.reg regVF) = some 0#8 := by decide
theorem witness_WaitingCyclePollsTheSlot_none :
    waiting.fault = none ∧ waiting.mode = .waitingForKey ∧ waiting.kbd = none := by decide
theorem witness_WaitingCyclePollsTheSlot_key :
    (waiting.setKbd (some 0#4)).fault = none ∧ (waiting.setKbd (some 0#4)).mode = .waitingForKey ∧
      (waiting.setKbd (some 0#4)).kbd = some 0#4 := by decide
theorem witness_StepRunsTheDecodedInstruction_initializing :
    State.reset.nextEvent = .cycle ∧ State.reset.fault = none ∧ State.reset.mode = .initializing ∧
      (0x0000#16).toNat = (State.reset.mem.read State.reset.pc).toNat * 256 +
        (State.reset.mem.read (State.reset.pc + 1#12)).toNat ∧ decode 0x0000#16 = .instr (.sys 0#12) := by decide
/-- Executing, at the fetch whose second address wraps. -/
theorem witness_StepRunsTheDecodedInstruction_executing :
    let s := ((atDepth 0 0xFFF#12).setMode .executing).withFetchWord 16 0x6012
    s.nextEvent = .cycle ∧ s.fault = none ∧ s.mode = .executing ∧
      (0x6012#16).toNat = (s.mem.read s.pc).toNat * 256 + (s.mem.read (s.pc + 1#12)).toNat ∧
      decode 0x6012#16 = .instr (.ldB 0 0x12#8) := by decide
theorem witness_StepPerformsTheNextEvent :
    State.reset.inbox = [] ∧ { State.reset with inbox := [.pause, .cycle] }.inbox = HostEvent.pause :: [.cycle] := by
  decide
theorem witness_InvalidWordIsReportedAndSkipped :
    let s := (State.reset.setMode .executing).withFetchWord 16 0xFFFF
    s.nextEvent = .cycle ∧ s.fault = none ∧ s.mode = .executing ∧
      (0xFFFF#16).toNat = (s.mem.read s.pc).toNat * 256 + (s.mem.read (s.pc + 1#12)).toNat ∧
      decode 0xFFFF#16 = .invalid 0xFFFF#16 := by decide
theorem witness_PausedCycleOnlyTicks : State.reset.pause.fault = none ∧ State.reset.pause.mode = .paused := by decide
theorem witness_TimersTickInEveryMode :
    State.reset.fault = none ∧ (∃ t, cycle State.reset = .next t) ∧
      (∀ x, (State.reset.mode = .initializing ∨ State.reset.mode = .executing) →
        decode (State.reset.mem.readWord State.reset.pc) ≠ .instr (.ldDt x)) ∧
      (∀ x, (State.reset.mode = .initializing ∨ State.reset.mode = .executing) →
        decode (State.reset.mem.readWord State.reset.pc) ≠ .instr (.ldSt x)) :=
  ⟨rfl, ⟨_, rfl⟩, by decide, by decide⟩
theorem witness_HaltedCoreIsFrozen :
    let s := (State.reset.setMode .executing).raise .stackUnderflow
    s.Inv ∧ s.fault ≠ none ∧ s.nextEvent ≠ .reset :=
  ⟨⟨by decide, by decide, by decide, by decide⟩, by decide, by decide⟩
theorem witness_ReportsAreStickyUntilReset :
    let s := (State.reset.latchInvalid 0xFFFF#16).raise .outOfBounds
    s.nextEvent ≠ .reset ∧ (∃ t, step s = .next t) ∧ s.fault ≠ none ∧ s.inv = true :=
  ⟨by decide, ⟨_, rfl⟩, by decide, by decide⟩
theorem witness_FatalFaultsArePreciseAndCaused :
    State.reset.fault = none ∧
      (∃ t, exec .ret State.reset = .next t ∧ t.fault = some .stackUnderflow ∧ raises State.reset .ret .stackUnderflow) ∧
      (∃ t, exec .cls State.reset = .next t ∧ t.fault = none) :=
  ⟨rfl, ⟨_, rfl, rfl, rfl⟩, ⟨_, rfl, rfl⟩⟩
theorem witness_OutOfBoundsHasFourCauses :
    (State.reset.setIndex 0xFF2#12).index.toNat + (15#4).toNat > 4096 ∧
      (State.reset.setIndex 0xFF1#12).index.toNat + (15 : Reg).val + 1 > 4096 ∧
      (atDepth 0 0xFFF#12).fault = none ∧ (atDepth 0 0xFFF#12).mode = .initializing ∧
      (atDepth 0 0xFFF#12).pc.toNat + [0xAA#8, 0xAA#8].length > 4096 := by decide
theorem witness_ModeFollowsTheTransitionTable : ∃ t, step State.reset = .next t ∧ t.mode = .executing := ⟨_, rfl, rfl⟩
theorem witness_StoredCodeIsFetchedNext :
    1 ≤ (1 : Reg).val ∧ (State.reset.setIndex 0x202#12).index = (State.reset.setIndex 0x202#12).pc + 2#12 ∧
      (State.reset.setIndex 0x202#12).index.toNat + (1 : Reg).val + 1 ≤ 4096 := by decide
theorem witness_LoadCopiesOnlyInInitializing_fits :
    State.reset.fault = none ∧ State.reset.mode = .initializing ∧
      State.reset.pc.toNat + (List.replicate 3584 0xAA#8).length ≤ 4096 :=
  ⟨rfl, rfl, by rw [List.length_replicate]; decide⟩
theorem witness_LoadCopiesOnlyInInitializing_refused :
    (State.reset.raise .outOfBounds).fault ≠ none ∧ State.reset.pause.mode ≠ .initializing := by decide
theorem witness_PauseThenResumeOnlyTicks :
    State.reset.fault = none ∧ State.reset.mode = .initializing ∧ waiting.fault = none ∧
      waiting.mode = .waitingForKey := by decide
theorem witness_PauseThenResumeOnlyTicks_refused :
    (State.reset.raise .outOfBounds).fault ≠ none ∧ waiting.pause.mode = .paused ∧
      (State.reset.setMode .loadingROM).mode = .loadingROM ∧ waiting.mode ≠ .paused := by decide
/-- The jump to itself at 0x200 (1200), executing. -/
theorem witness_EndedRunOnlyTicks : ((State.reset.setMode .executing).withFetchWord 16 0x1200).EndedWell :=
  ⟨⟨by decide, by decide⟩, by decide, by decide⟩
theorem witness_StepKeepsTheInvariant : State.reset.Inv ∧ ∃ t, step State.reset = .next t :=
  ⟨⟨by decide, by decide, by decide, by decide⟩, ⟨_, rfl⟩⟩
theorem witness_OnlyListedRegistersAreWritten :
    (∃ t, exec (.addR 0 1) State.reset = .next t) ∧ ¬ writesReg 14 (.addR 0 1) := ⟨⟨_, rfl⟩, by simp [writesReg, regVF]⟩
theorem witness_UnreadRegistersHaveNoInfluence :
    (∃ t, exec (.addR 0 1) State.reset = .next t) ∧ ¬ readsReg 15 (.addR 0 1) := ⟨⟨_, rfl⟩, by simp [readsReg]⟩
theorem witness_SoundTimerHasNoInfluence :
    (∃ t, exec (.ldDt 1) State.reset = .next t) ∧ ∀ x, Instr.ldDt 1 ≠ .ldSt x := ⟨⟨_, rfl⟩, by simp⟩
/-- Two stacks that agree at entry 0 only. -/
theorem witness_DeadFramesHaveNoInfluence :
    (∀ k : Fin 16, k ≤ State.reset.sp → (Vector.replicate 16 0x200#12)[k] = State.reset.entry k) ∧
      Vector.replicate 16 0x200#12 ≠ State.reset.stack ∧ ∃ t, exec (.call 0x300#12) State.reset = .next t :=
  ⟨by decide, by decide, ⟨_, rfl⟩⟩
theorem witness_OnlyCallAndReturnMoveTheStack :
    (∃ t, exec (.call 0x300#12) State.reset = .next t ∧ t.sp = 1) ∧
      (∃ t, exec .ret (atDepth 1 0x300#12) = .next t ∧ t.sp = 0) := ⟨⟨_, rfl, rfl⟩, ⟨_, rfl, rfl⟩⟩
theorem witness_NothingElseIsWritten :
    (∃ t, exec (.rnd 1 0xFF#8) State.reset = .next t ∧ t.draws = 1) ∧ Part.draws ∉ partsWritten .cls ∧
      Part.memory ∉ partsWritten (.drw 1 2 3#4) ∧ ∃ t, exec .cls State.reset = .next t ∧ t.draws = 0 :=
  ⟨⟨_, rfl, rfl⟩, by decide, by decide, ⟨_, rfl, rfl⟩⟩

end Sys2Proof.Tests
end

section
/-! PROOFS. The host's key events. -/

namespace Sys2Proof.Machine

/-- Writing the keyboard slot leaves every other part of the state alone. -/
theorem State.setKbd_keepsAllBut (s : State) (k : Option Nibble) : KeepsAllBut [.keyboard] s (s.setKbd k) := by
  intro p hp
  cases p with
  | keyboard => simp at hp
  | _ => simp [SamePart]

/-- ReleaseKeys is one write of the slot, whatever the mode (R107). -/
theorem performEvent_releaseKeys (s : State) : performEvent .releaseKeys s = .next (s.setKbd none) := rfl

/-- Settles O45: the event is the one slot write, and its frame is that of `setKbd`. -/
theorem releaseKeysEmptiesTheSlot : Obligations.ReleaseKeysEmptiesTheSlot := fun s =>
  ⟨s.setKbd none, performEvent_releaseKeys s, s.setKbd_kbd none, s.setKbd_keepsAllBut none⟩

end Sys2Proof.Machine
end

section
/-! PROOFS. Register writes that end with the ordinary advance. -/

namespace Sys2Proof.Machine

/-- Writing a register leaves every part but the registers alone. -/
theorem State.setReg_keepsAllBut (s : State) (x : Reg) (b : Byte) : KeepsAllBut [.regs] s (s.setReg x b) := by
  intro p hp
  cases p with
  | regs => simp at hp
  | _ => simp [SamePart]

/-- The ordinary advance after an update adds the stack, which holds pc, to what that update may change (R26, R96). -/
theorem KeepsAllBut.advance {changed : List Part} {s t : State} (h : KeepsAllBut changed s t) :
    KeepsAllBut (changed ++ [.stack]) s t.advance := by
  intro p hp
  have hst : SamePart s t p := h p fun hm => hp (List.mem_append_left _ hm)
  cases p with
  | stack => simp at hp
  | _ => exact hst

/-- The ordinary advance after an update that kept the stack moves pc by two (R96). -/
theorem SamePart.pcMoves_advance {s t : State} (h : SamePart s t .stack) : PcMoves s t.advance (s.pc + 2#12) := by
  obtain ⟨hsp, hentry⟩ := h
  have hpc : t.pc = s.pc := by rw [State.pc_eq_entry, State.pc_eq_entry, hsp, hentry]
  exact ⟨by simp [hsp], by simp [hpc], fun k hk => by simp [hsp, hk, hentry]⟩

/-- One register write followed by the ordinary advance, for every register, VF included. -/
theorem State.setReg_advance_writesReg (s : State) (x : Reg) (b : Byte) : WritesReg s (s.setReg x b).advance x b where
  reg r := by simp
  pc := SamePart.pcMoves_advance (s.setReg_keepsAllBut x b .stack (by simp))
  frame := (s.setReg_keepsAllBut x b).advance

/-- The load of a byte is one register write and the ordinary advance (R120). -/
theorem exec_ldB (x : Reg) (nn : Byte) (s : State) : exec (.ldB x nn) s = .next (s.setReg x nn).advance := rfl

/-- Settles O5: the instruction is the one register write and the advance, whatever x is. -/
theorem loadByteWritesItsRegister : Obligations.LoadByteWritesItsRegister := fun x nn s =>
  ⟨(s.setReg x nn).advance, exec_ldB x nn s, s.setReg_advance_writesReg x nn⟩

end Sys2Proof.Machine
end

section
/-! PROOFS. Index-register writes that end with the ordinary advance. -/

namespace Sys2Proof.Machine

/-- Writing the index register leaves every part but the index register alone. -/
theorem State.setIndex_keepsAllBut (s : State) (a : Addr) : KeepsAllBut [.index] s (s.setIndex a) := by
  intro p hp
  cases p with
  | index => simp at hp
  | _ => simp [SamePart]

/-- One write of the index register followed by the ordinary advance. -/
theorem State.setIndex_advance_writesIndex (s : State) (a : Addr) : WritesIndex s (s.setIndex a).advance a where
  index := by simp
  pc := SamePart.pcMoves_advance (s.setIndex_keepsAllBut a .stack (by simp))
  frame := (s.setIndex_keepsAllBut a).advance

/-- The low nibble of a byte is its remainder mod 16 (R10). -/
theorem toNat_nib (b : Byte) : (nib b).toNat = b.toNat % 16 := BitVec.toNat_setWidth 4 b

/-- The last glyph starts at 0x04B, so the 12 bits hold every glyph's address unchanged (R142). -/
theorem toNat_glyphAddr (b : Byte) : (glyphAddr b).toNat = 5 * (b.toNat % 16) := by
  have hfits : 5 * (b.toNat % 16) < 2 ^ 12 := by omega
  rw [glyphAddr, toNat_nib, BitVec.toNat_ofNat, Nat.mod_eq_of_lt hfits]

/-- The load of a glyph's address is one write of the index register and the ordinary advance (R142). -/
theorem exec_ldF (x : Reg) (s : State) : exec (.ldF x) s = .next (s.setIndex (glyphAddr (s.reg x))).advance := rfl

/-- Settles O14: the instruction is the one index write and the advance, and the glyph's address does not wrap. -/
theorem glyphAddressFromLowNibble : Obligations.GlyphAddressFromLowNibble := fun x s =>
  ⟨(s.setIndex (glyphAddr (s.reg x))).advance, glyphAddr (s.reg x), exec_ldF x s,
    s.setIndex_advance_writesIndex _, toNat_glyphAddr _⟩

end Sys2Proof.Machine
end

section
/-! PROOFS. The ordinary advance alone. -/

namespace Sys2Proof.Machine

/-- Every part is the same in a state and itself. -/
theorem SamePart.refl (s : State) (p : Part) : SamePart s s p := by
  cases p <;> simp [SamePart]

/-- The ordinary advance alone moves pc by two (R96). -/
theorem State.advance_pcMoves (s : State) : PcMoves s s.advance (s.pc + 2#12) := (SamePart.refl s .stack).pcMoves_advance

/-- The ordinary advance alone changes nothing but the stack, which holds pc (R26, R96). -/
theorem State.advance_keepsAllBut (s : State) : KeepsAllBut [.stack] s s.advance :=
  KeepsAllBut.advance (changed := []) fun p _ => SamePart.refl s p

/-- The legacy machine-code call is the ordinary advance, whatever its operand (R151). -/
theorem exec_sys (nnn : Addr) (s : State) : exec (.sys nnn) s = .next s.advance := rfl

/-- Settles O19: the instruction is the ordinary advance alone. -/
theorem systemCallIsNoop : Obligations.SystemCallIsNoop := fun nnn s =>
  ⟨s.advance, exec_sys nnn s, s.advance_pcMoves, s.advance_keepsAllBut⟩

end Sys2Proof.Machine
end

section
/-! PROOFS. Frame-buffer writes that end with the ordinary advance. -/

namespace Sys2Proof.Machine

/-- Replacing the frame buffer leaves every part but the display alone. -/
theorem State.setFb_keepsAllBut (s : State) (f : Vector Scanline 32) : KeepsAllBut [.display] s (s.setFb f) := by
  intro p hp
  cases p with
  | display => simp at hp
  | _ => simp [SamePart]

/-- Each row read back from a replaced frame buffer is that buffer's own (R38). -/
@[simp] theorem State.row_setFb (s : State) (f : Vector Scanline 32) (r : Fin 32) : (s.setFb f).row r = f[r.val] := rfl

/-- Clearing the screen is one write of the all-zero buffer and the ordinary advance (R166). -/
theorem exec_cls (s : State) : exec .cls s = .next (s.setFb (Vector.replicate 32 0#64)).advance := rfl

/-- Settles O25: the instruction is the one buffer write and the advance, and each row of that buffer is zero. -/
theorem clearScreenZeroesEveryRow : Obligations.ClearScreenZeroesEveryRow := by
  intro s
  have hframe := s.setFb_keepsAllBut (Vector.replicate 32 0#64)
  have hrows (r : Fin 32) : (s.setFb (Vector.replicate 32 0#64)).advance.row r = 0#64 := by
    rw [State.row_advance, State.row_setFb, Vector.getElem_replicate]
  exact ⟨_, exec_cls s, hrows, SamePart.pcMoves_advance (hframe .stack (by simp)), hframe.advance⟩

end Sys2Proof.Machine
end

section
/-! PROOFS. Conditional skips and the key tests that take them. -/

namespace Sys2Proof.Machine

/-- A conditional skip leaves every part but the stack, which holds pc, alone (R26, R96). -/
theorem State.skipIf_keepsAllBut (s : State) (b : Bool) : KeepsAllBut [.stack] s (s.skipIf b) := by
  intro p hp
  cases p with
  | stack => simp at hp
  | _ => simp [SamePart]

/-- A conditional skip moves pc by four when it is taken and by two when it is not (R96). -/
theorem State.skipIf_pcMoves (s : State) (b : Bool) : PcMoves s (s.skipIf b) (s.pc + if b then 4#12 else 2#12) where
  sp := by simp
  pc := by simp
  others k hk := by simp [hk]

/-- A skip on a Boolean that decides a condition is the skip on that condition. -/
theorem State.skipIf_skips (s : State) {b : Bool} {taken : Prop} (hb : b = true ↔ taken) :
    Skips s (s.skipIf b) taken where
  whenTaken ht := by simpa [hb.mpr ht] using s.skipIf_pcMoves b
  whenNot ht := by simpa [mt hb.mp ht] using s.skipIf_pcMoves b
  frame := s.skipIf_keepsAllBut b

/-- The slot holds the key that a byte names when it holds some key and that key is the byte's low nibble: an empty
slot matches no byte, 0 included (R30, R178). -/
theorem State.isPressed_nib_iff (s : State) (b : Byte) :
    s.isPressed (nib b) = true ↔ ∃ k, s.kbd = some k ∧ k.toNat = b.toNat % 16 := by
  have hkey (k : Nibble) : k = nib b ↔ k.toNat = b.toNat % 16 := by rw [← BitVec.toNat_inj, toNat_nib]
  simp only [State.isPressed, beq_iff_eq, ← hkey, exists_eq_right]

/-- SKP is one skip on the slot holding the key that V[x] names (R178). -/
theorem exec_skp (x : Reg) (s : State) : exec (.skp x) s = .next (s.skipIf (s.isPressed (nib (s.reg x)))) := rfl

/-- SKNP is one skip on the slot not holding the key that V[x] names (R179). -/
theorem exec_sknp (x : Reg) (s : State) : exec (.sknp x) s = .next (s.skipIf (!s.isPressed (nib (s.reg x)))) := rfl

/-- Settles O29: each instruction is one skip, and the Boolean it tests decides whether the slot holds the low nibble's
key, or its negation. -/
theorem keySkipsTestTheLowNibble : Obligations.KeySkipsTestTheLowNibble := by
  intro x s
  have hpressed := s.isPressed_nib_iff (s.reg x)
  have hnotPressed : (!s.isPressed (nib (s.reg x))) = true ↔
      ¬ ∃ k, s.kbd = some k ∧ k.toNat = (s.reg x).toNat % 16 := by
    rw [Bool.not_eq_true', ← Bool.not_eq_true, hpressed]
  exact ⟨⟨_, exec_skp x s, s.skipIf_skips hpressed⟩, ⟨_, exec_sknp x s, s.skipIf_skips hnotPressed⟩⟩

end Sys2Proof.Machine
end

section
/-! PROOFS. The decoder against the encoder. -/

namespace Sys2Proof

open Sys2Proof.Machine

/-! ## A word from its fields -/

/-- A word is its family and its address literal (R72). -/
theorem eq_wordA_of_fields (w : Word) : w = wordA (fieldFam w) (fieldNNN w) := by
  unfold wordA fieldFam fieldNNN
  refine BitVec.eq_of_getLsbD_eq fun i hi => ?_
  rw [BitVec.getLsbD_append]
  simp only [BitVec.getLsbD_extractLsb']
  interval_cases i <;> simp

/-- A word is its family, its first register field and its byte literal (R72). -/
theorem eq_wordXB_of_fields (w : Word) : w = wordXB (fieldFam w) (fieldX w) (fieldNN w) := by
  have hx : regBits (fieldX w) = w.extractLsb' 8 4 := rfl
  unfold wordXB
  rw [hx]
  unfold fieldFam fieldNN
  refine BitVec.eq_of_getLsbD_eq fun i hi => ?_
  iterate 2 rw [BitVec.getLsbD_append]
  simp only [BitVec.getLsbD_extractLsb']
  interval_cases i <;> simp

/-- The bottom nibble put into a word that has none is an OR (R76). -/
theorem wordXYN_eq_or (fam : BitVec 4) (x y : Reg) (n : Nibble) :
    wordXYN fam x y n = wordXYN fam x y 0#4 ||| n.setWidth 16 := by
  unfold wordXYN
  refine BitVec.eq_of_getLsbD_eq fun i hi => ?_
  rw [BitVec.getLsbD_or, BitVec.getLsbD_setWidth]
  iterate 6 rw [BitVec.getLsbD_append]
  interval_cases i <;> simp

/-! ## Decoding a word of each format -/

/-- The two full-word literals are of family 0, so any other family goes straight to the switch (R74). -/
theorem decode_of_fieldFam_ne_zero {w : Word} (h : fieldFam w ≠ 0x0#4) : decode w = decodeFamily w := by
  have hcls : w ≠ 0x00E0#16 := by rintro rfl; exact h (by decide)
  have hret : w ≠ 0x00EE#16 := by rintro rfl; exact h (by decide)
  rw [decode, if_neg hcls, if_neg hret]

theorem decode_wordA {fam : BitVec 4} (h : fam ≠ 0x0#4) (nnn : Addr) :
    decode (wordA fam nnn) = decodeFamily (wordA fam nnn) :=
  decode_of_fieldFam_ne_zero (by rwa [fieldFam_wordA])

theorem decode_wordXB {fam : BitVec 4} (h : fam ≠ 0x0#4) (x : Reg) (nn : Byte) :
    decode (wordXB fam x nn) = decodeFamily (wordXB fam x nn) :=
  decode_of_fieldFam_ne_zero (by rwa [fieldFam_wordXB])

theorem decode_wordXYN {fam : BitVec 4} (h : fam ≠ 0x0#4) (x y : Reg) (n : Nibble) :
    decode (wordXYN fam x y n) = decodeFamily (wordXYN fam x y n) :=
  decode_of_fieldFam_ne_zero (by rwa [fieldFam_wordXYN])

/-- A family 0 word is SYS unless its address field makes it one of the two literals (R74). -/
theorem decode_wordA_zero {nnn : Addr} (hcls : nnn ≠ 0x0E0#12) (hret : nnn ≠ 0x0EE#12) :
    decode (wordA 0x0#4 nnn) = .instr (.sys nnn) := by
  have hword {lit : Addr} (h : nnn ≠ lit) : wordA 0x0#4 nnn ≠ wordA 0x0#4 lit := fun e =>
    h (by rw [← fieldNNN_wordA 0x0#4 nnn, e, fieldNNN_wordA])
  have hnotCls : wordA 0x0#4 nnn ≠ 0x00E0#16 := hword hcls
  have hnotRet : wordA 0x0#4 nnn ≠ 0x00EE#16 := hword hret
  rw [decode, if_neg hnotCls, if_neg hnotRet]
  simp [decodeFamily, fieldFam_wordA, fieldNNN_wordA]

/-- The decoder undoes the encoder on every well-formed term: a word read back through the fields of its own format. -/
theorem decode_encode (i : Instr) (h : i.wellFormed = true) : decode (encode i) = .instr i := by
  cases i with
  | cls | ret => rfl
  | sys nnn =>
    simp only [Instr.wellFormed, Bool.and_eq_true, bne_iff_ne] at h
    exact decode_wordA_zero h.1 h.2
  | jp _ | call _ | ldI _ | jpV0 _ =>
    rw [encode, decode_wordA (by decide)]
    simp [decodeFamily, fieldFam_wordA, fieldNNN_wordA]
  | seB _ _ | sneB _ _ | ldB _ _ | addB _ _ | rnd _ _ =>
    rw [encode, decode_wordXB (by decide)]
    simp [decodeFamily, fieldFam_wordXB, fieldX_wordXB, fieldNN_wordXB]
  | seR _ _ | sneR _ _ | drw _ _ _ =>
    rw [encode, decode_wordXYN (by decide)]
    simp [decodeFamily, fieldFam_wordXYN, fieldX_wordXYN, fieldY_wordXYN, fieldN_wordXYN]
  | ldR _ _ | orR _ _ | andR _ _ | xorR _ _ | addR _ _ | sub _ _ | shr _ _ | subn _ _ | shl _ _ =>
    rw [encode, decode_wordXYN (by decide)]
    simp [decodeFamily, decodeFamily8, fieldFam_wordXYN, fieldX_wordXYN, fieldY_wordXYN, fieldN_wordXYN]
  | skp _ | sknp _ =>
    rw [encode, decode_wordXB (by decide)]
    simp [decodeFamily, decodeFamilyE, fieldFam_wordXB, fieldX_wordXB, fieldNN_wordXB]
  | ldVDt _ | ldK _ | ldDt _ | ldSt _ | addI _ | ldF _ | ldBcd _ | stRegs _ | ldRegs _ =>
    rw [encode, decode_wordXB (by decide)]
    simp [decodeFamily, decodeFamilyF, fieldFam_wordXB, fieldX_wordXB, fieldNN_wordXB]

/-- Settles O1: each format's fields read back what the encoder put there, and no other word is a literal of R74. -/
theorem decodeEncodeRoundTrip : Obligations.DecodeEncodeRoundTrip := decode_encode

/-! ## The word of a decoded instruction -/

/-- Family 8 reads an instruction only off its own word. -/
theorem encode_of_decodeFamily8 {w : Word} {i : Instr} (hfam : fieldFam w = 0x8#4)
    (h : decodeFamily8 w = .instr i) : i.wellFormed = true ∧ w = encode i := by
  have hw := eq_wordXYN_of_fields w
  rw [hfam] at hw
  unfold decodeFamily8 at h
  split at h <;> rename_i hn <;> cases h <;> rw [hn] at hw <;> exact ⟨rfl, hw⟩

/-- Family E reads an instruction only off its own word. -/
theorem encode_of_decodeFamilyE {w : Word} {i : Instr} (hfam : fieldFam w = 0xE#4)
    (h : decodeFamilyE w = .instr i) : i.wellFormed = true ∧ w = encode i := by
  have hw := eq_wordXB_of_fields w
  rw [hfam] at hw
  unfold decodeFamilyE at h
  split at h <;> rename_i hnn <;> cases h <;> rw [hnn] at hw <;> exact ⟨rfl, hw⟩

/-- Family F reads an instruction only off its own word. -/
theorem encode_of_decodeFamilyF {w : Word} {i : Instr} (hfam : fieldFam w = 0xF#4)
    (h : decodeFamilyF w = .instr i) : i.wellFormed = true ∧ w = encode i := by
  have hw := eq_wordXB_of_fields w
  rw [hfam] at hw
  unfold decodeFamilyF at h
  split at h <;> rename_i hnn <;> cases h <;> rw [hnn] at hw <;> exact ⟨rfl, hw⟩

/-- The fifteen families the switch names leave the last arm to family F (R71). -/
theorem eq_F_of_ne_others : ∀ f : BitVec 4, f ≠ 0x0#4 → f ≠ 0x1#4 → f ≠ 0x2#4 → f ≠ 0x3#4 → f ≠ 0x4#4 → f ≠ 0x5#4 →
    f ≠ 0x6#4 → f ≠ 0x7#4 → f ≠ 0x8#4 → f ≠ 0x9#4 → f ≠ 0xA#4 → f ≠ 0xB#4 → f ≠ 0xC#4 → f ≠ 0xD#4 → f ≠ 0xE#4 →
    f = 0xF#4 := by
  intros
  bv_omega

/-- A decoded word is its instruction's own word, or one of family 5 or 9 with its bottom nibble put in. -/
def IsWordOf (w : Word) (i : Instr) : Prop :=
  w = encode i ∨ ((fieldFam w = 0x5#4 ∨ fieldFam w = 0x9#4) ∧ ∃ n : Nibble, w = encode i ||| n.setWidth 16)

/-- The family switch reads an instruction off a word of that instruction; the two literals are never met here. -/
theorem isWordOf_of_decodeFamily {w : Word} {i : Instr} (hcls : w ≠ 0x00E0#16) (hret : w ≠ 0x00EE#16)
    (h : decodeFamily w = .instr i) : i.wellFormed = true ∧ IsWordOf w i := by
  have hA := eq_wordA_of_fields w
  have hXB := eq_wordXB_of_fields w
  have hXYN := eq_wordXYN_of_fields w
  unfold decodeFamily at h
  split at h
  case h_1 hf =>
    cases h
    rw [hf] at hA
    have hnotCls : fieldNNN w ≠ 0x0E0#12 := fun e => hcls (by rw [hA, e]; rfl)
    have hnotRet : fieldNNN w ≠ 0x0EE#12 := fun e => hret (by rw [hA, e]; rfl)
    exact ⟨by simp [Instr.wellFormed, hnotCls, hnotRet], .inl hA⟩
  case h_2 hf | h_3 hf | h_11 hf | h_12 hf =>
    cases h
    exact ⟨rfl, .inl (by rwa [hf] at hA)⟩
  case h_4 hf | h_5 hf | h_7 hf | h_8 hf | h_13 hf =>
    cases h
    exact ⟨rfl, .inl (by rwa [hf] at hXB)⟩
  case h_6 hf =>
    cases h
    exact ⟨rfl, .inr ⟨.inl hf, fieldN w, by rwa [hf, wordXYN_eq_or] at hXYN⟩⟩
  case h_10 hf =>
    cases h
    exact ⟨rfl, .inr ⟨.inr hf, fieldN w, by rwa [hf, wordXYN_eq_or] at hXYN⟩⟩
  case h_14 hf =>
    cases h
    exact ⟨rfl, .inl (by rwa [hf] at hXYN)⟩
  case h_9 hf => exact (encode_of_decodeFamily8 hf h).imp_right .inl
  case h_15 hf => exact (encode_of_decodeFamilyE hf h).imp_right .inl
  case h_16 h0 h1 h2 h3 h4 h5 h6 h7 h8 h9 hA hB hC hD hE =>
    exact (encode_of_decodeFamilyF (eq_F_of_ne_others _ h0 h1 h2 h3 h4 h5 h6 h7 h8 h9 hA hB hC hD hE) h).imp_right .inl

/-- Settles O2: the two literals are their own words, and the switch reads every other word by its fields. -/
theorem decodedWordIsItsEncoding : Obligations.DecodedWordIsItsEncoding := by
  intro w i h
  unfold decode at h
  split_ifs at h with hcls hret
  · cases h
    exact ⟨rfl, .inl hcls⟩
  · cases h
    exact ⟨rfl, .inl hret⟩
  · exact isWordOf_of_decodeFamily hcls hret h

/-! ## The Invalid words -/

theorem decodeFamily8_eq_invalid_iff (w u : Word) :
    decodeFamily8 w = .invalid u ↔ u = w ∧ fieldN w ∈ [0x8#4, 0x9#4, 0xA#4, 0xB#4, 0xC#4, 0xD#4, 0xF#4] := by
  have hother : ∀ n : Nibble, n ≠ 0x0#4 → n ≠ 0x1#4 → n ≠ 0x2#4 → n ≠ 0x3#4 → n ≠ 0x4#4 → n ≠ 0x5#4 → n ≠ 0x6#4 →
      n ≠ 0x7#4 → n ≠ 0xE#4 → n ∈ [0x8#4, 0x9#4, 0xA#4, 0xB#4, 0xC#4, 0xD#4, 0xF#4] := by decide
  unfold decodeFamily8
  split
  case h_10 h0 h1 h2 h3 h4 h5 h6 h7 hE =>
    simp only [hother _ h0 h1 h2 h3 h4 h5 h6 h7 hE, and_true, Decoded.invalid.injEq, eq_comm (a := w)]
  case h_1 hn | h_2 hn | h_3 hn | h_4 hn | h_5 hn | h_6 hn | h_7 hn | h_8 hn | h_9 hn => simp [hn]

theorem decodeFamilyE_eq_invalid_iff (w u : Word) :
    decodeFamilyE w = .invalid u ↔ u = w ∧ fieldNN w ∉ [0x9E#8, 0xA1#8] := by
  unfold decodeFamilyE
  split
  case h_3 h9E hA1 =>
    have hnn : fieldNN w ∉ [0x9E#8, 0xA1#8] := by
      simp only [List.mem_cons, List.not_mem_nil, or_false, not_or]
      exact ⟨h9E, hA1⟩
    simp only [hnn, not_false_eq_true, and_true, Decoded.invalid.injEq, eq_comm (a := w)]
  case h_1 hnn | h_2 hnn => simp [hnn]

theorem decodeFamilyF_eq_invalid_iff (w u : Word) :
    decodeFamilyF w = .invalid u ↔ u = w ∧
      fieldNN w ∉ [0x07#8, 0x0A#8, 0x15#8, 0x18#8, 0x1E#8, 0x29#8, 0x33#8, 0x55#8, 0x65#8] := by
  unfold decodeFamilyF
  split
  case h_10 h07 h0A h15 h18 h1E h29 h33 h55 h65 =>
    have hnn : fieldNN w ∉ [0x07#8, 0x0A#8, 0x15#8, 0x18#8, 0x1E#8, 0x29#8, 0x33#8, 0x55#8, 0x65#8] := by
      simp only [List.mem_cons, List.not_mem_nil, or_false, not_or]
      exact ⟨h07, h0A, h15, h18, h1E, h29, h33, h55, h65⟩
    simp only [hnn, not_false_eq_true, and_true, Decoded.invalid.injEq, eq_comm (a := w)]
  case h_1 hnn | h_2 hnn | h_3 hnn | h_4 hnn | h_5 hnn | h_6 hnn | h_7 hnn | h_8 hnn | h_9 hnn => simp [hnn]

/-- Only a word of the family switch can be Invalid: the two literals are instructions, of family 0 (R74). -/
theorem decode_eq_invalid_iff_decodeFamily (w u : Word) : decode w = .invalid u ↔ decodeFamily w = .invalid u := by
  by_cases h : fieldFam w = 0x0#4
  · have hfam : decodeFamily w = .instr (.sys (fieldNNN w)) := by simp [decodeFamily, h]
    rw [hfam, decode, hfam]
    split_ifs <;> simp
  · rw [decode_of_fieldFam_ne_zero h]

/-- Settles O3: thirteen families are never Invalid, and the other three are by their sub-opcode. -/
theorem invalidWordsExactly : Obligations.InvalidWordsExactly := by
  intro w u
  rw [decode_eq_invalid_iff_decodeFamily]
  unfold decodeFamily
  split
  case h_9 hf => simp [hf, decodeFamily8_eq_invalid_iff]
  case h_15 hf => simp [hf, decodeFamilyE_eq_invalid_iff]
  case h_16 h0 h1 h2 h3 h4 h5 h6 h7 h8 h9 hA hB hC hD hE =>
    simp [eq_F_of_ne_others _ h0 h1 h2 h3 h4 h5 h6 h7 h8 h9 hA hB hC hD hE, decodeFamilyF_eq_invalid_iff]
  case h_1 hf | h_2 hf | h_3 hf | h_4 hf | h_5 hf | h_6 hf | h_7 hf | h_8 hf | h_10 hf | h_11 hf | h_12 hf | h_13 hf |
      h_14 hf => simp [hf]

/-- Settles O4: each word is read field by field. -/
theorem writtenOutWordsDecode : Obligations.WrittenOutWordsDecode := by
  unfold Obligations.WrittenOutWordsDecode
  decide

/-! ## The assembler's word (rules R76, R77, R82) -/

/-- The y of a shift is not spelled (R77, R81). -/
theorem Instr.asm_canonical (i : Instr) : i.canonical.asm = i.asm := by
  rcases i.canonical_cases with h | ⟨x, y, rfl, h⟩ | ⟨x, y, rfl, h⟩ <;> rw [h] <;> rfl

/-- The y of a shift has no effect (R77, D10). -/
theorem exec_canonical (i : Instr) (s : State) : exec i.canonical s = exec i s := by
  rcases i.canonical_cases with h | ⟨x, y, rfl, h⟩ | ⟨x, y, rfl, h⟩ <;> rw [h] <;> rfl

/-- What is no shift assembles to the word of its term. -/
theorem assemble_eq_encode {i : Instr} (hshr : ∀ x y, i ≠ .shr x y) (hshl : ∀ x y, i ≠ .shl x y) :
    assemble i = encode i := by
  rcases i.canonical_cases with h | ⟨x, y, rfl, h⟩ | ⟨x, y, rfl, h⟩
  · rw [assemble, h]
  · exact absurd rfl (hshr x y)
  · exact absurd rfl (hshl x y)

/-- Settles O59: the assembler's word is that of the canonical term, which differs from the term only in a shift's y. -/
theorem assemblyIsCanonical : Obligations.AssemblyIsCanonical := by
  refine ⟨fun x y => ⟨rfl, fieldY_wordXYN .., rfl, fieldY_wordXYN .., fieldN_wordXYN .., fieldN_wordXYN ..⟩,
    fun i => assemble_eq_encode, fun i => ⟨i.asm_canonical, exec_canonical i, fun hwf => ?_⟩⟩
  exact decode_encode i.canonical (by rwa [Instr.wellFormed_canonical])

end Sys2Proof
end

section
/-! PROOFS. How frames compose, and the frame of each state operation the instructions are made of. -/

namespace Sys2Proof.Machine

/-! ## Composition -/

theorem KeepsAllBut.refl (changed : List Part) (s : State) : KeepsAllBut changed s s := fun p _ => SamePart.refl s p

/-- A frame still holds when more parts may change. -/
theorem KeepsAllBut.mono {c d : List Part} {s t : State} (h : KeepsAllBut c s t) (hcd : ∀ p ∈ c, p ∈ d) :
    KeepsAllBut d s t := fun p hp => h p (mt (hcd p) hp)

/-- A part that is the same over two updates is the same over both. -/
theorem SamePart.trans {s t u : State} {p : Part} (hst : SamePart s t p) (htu : SamePart t u p) : SamePart s u p := by
  cases p <;> simp_all [SamePart]

/-- What two updates in a row may change is what either may change. -/
theorem KeepsAllBut.trans {c d : List Part} {s t u : State} (hst : KeepsAllBut c s t) (htu : KeepsAllBut d t u) :
    KeepsAllBut (c ++ d) s u := by
  intro p hp
  rw [List.mem_append, not_or] at hp
  exact (hst p hp.1).trans (htu p hp.2)

/-- What two updates that may change the same parts change together. -/
theorem KeepsAllBut.trans_same {c : List Part} {s t u : State} (hst : KeepsAllBut c s t) (htu : KeepsAllBut c t u) :
    KeepsAllBut c s u := fun p hp => (hst p hp).trans (htu p hp)

/-! ## Operations -/

theorem State.setFlag_keepsAllBut (s : State) (b : Bool) : KeepsAllBut [.regs] s (s.setFlag b) :=
  s.setReg_keepsAllBut regVF (flagByte b)

theorem State.setSubFlag_keepsAllBut (s : State) (p q : Byte) : KeepsAllBut [.regs] s (s.setSubFlag p q) := by
  unfold State.setSubFlag
  split
  · exact s.setFlag_keepsAllBut true
  · exact KeepsAllBut.refl _ s

theorem State.setRegs_keepsAllBut (s : State) (bs : List Byte) : KeepsAllBut [.regs] s (s.setRegs bs) := by
  intro p hp
  cases p with
  | regs => simp at hp
  | _ => simp [SamePart]

theorem State.setDt_keepsAllBut (s : State) (b : Byte) : KeepsAllBut [.delay] s (s.setDt b) := by
  intro p hp
  cases p with
  | delay => simp at hp
  | _ => simp [SamePart]

theorem State.setSt_keepsAllBut (s : State) (b : Byte) : KeepsAllBut [.sound] s (s.setSt b) := by
  intro p hp
  cases p with
  | sound => simp at hp
  | _ => simp [SamePart]

theorem State.consumeDraw_keepsAllBut (s : State) : KeepsAllBut [.draws] s s.consumeDraw := by
  intro p hp
  cases p with
  | draws => simp at hp
  | _ => simp [SamePart]

theorem State.startWait_keepsAllBut (s : State) (x : Reg) : KeepsAllBut [.wait, .mode] s (s.startWait x) := by
  intro p hp
  cases p with
  | wait | mode => simp at hp
  | _ => simp [SamePart]

/-- Memory replaced by one with the same `FONT` changes nothing but bytes. -/
theorem State.setMem_keepsAllBut (s : State) {m : Memory} (hfont : m.font = s.mem.font) :
    KeepsAllBut [.memory] s (s.setMem m) := by
  intro p hp
  cases p with
  | memory => simp at hp
  | font => simpa [SamePart] using hfont
  | _ => simp [SamePart]

/-- Storing bytes changes nothing but bytes: `FONT` is no part of what a store writes (log entry 4). -/
theorem State.setMem_writeBytes_keepsAllBut (s : State) (a : Addr) (bs : List Byte) :
    KeepsAllBut [.memory] s (s.setMem (s.mem.writeBytes a bs)) :=
  s.setMem_keepsAllBut (Memory.writeBytes_font s.mem a bs)

/-- A fatal fault writes its two latches and nothing else (R196). -/
theorem State.raise_keepsAllBut (s : State) (f : FatalFault) : KeepsAllBut [.fault] s (s.raise f) := by
  intro p hp
  cases p with
  | fault => simp at hp
  | _ => simp [SamePart]

theorem State.setMode_keepsAllBut (s : State) (m : Mode) : KeepsAllBut [.mode] s (s.setMode m) := by
  intro p hp
  cases p with
  | mode => simp at hp
  | _ => simp [SamePart]

theorem State.enterPause_keepsAllBut (s : State) (r : ResumeMode) :
    KeepsAllBut [.resume, .mode] s (s.enterPause r) := by
  intro p hp
  cases p with
  | resume | mode => simp at hp
  | _ => simp [SamePart]

theorem State.tick_keepsAllBut (s : State) : KeepsAllBut [.delay, .sound] s s.tick := by
  intro p hp
  cases p with
  | delay | sound => simp at hp
  | _ => simp [SamePart]

theorem State.beginInstr_keepsAllBut (s : State) (w : Word) : KeepsAllBut [.ir, .mode] s (s.beginInstr w) := by
  intro p hp
  cases p with
  | ir | mode => simp at hp
  | _ => simp [SamePart]

theorem State.takeEvent_keepsAllBut (s : State) : KeepsAllBut [.inbox] s s.takeEvent := by
  intro p hp
  cases p with
  | inbox => simp at hp
  | _ => simp [SamePart]

theorem State.latchInvalid_keepsAllBut (s : State) (w : Word) : KeepsAllBut [.invalid] s (s.latchInvalid w) := by
  intro p hp
  cases p with
  | invalid => simp at hp
  | _ => simp [SamePart]

theorem State.endWait_keepsAllBut (s : State) (k : Nibble) :
    KeepsAllBut [.wait, .regs, .mode] s (s.endWait k) := by
  intro p hp
  cases p with
  | wait | regs | mode => simp at hp
  | _ => simp [SamePart]

end Sys2Proof.Machine
end

section
/-! PROOFS. What an instruction does, said once: it raises the fault of its cause, or makes its change to everything but
the call stack and then its transfer of control. -/

namespace Sys2Proof.Machine

/-! ## The fault, the effect and the transfer of each instruction -/

/-- The fatal fault an instruction raises in a state, if its cause is there (60_exceptions.md rules R191 to R193). -/
def faultOf (s : State) : Instr → Option FatalFault
  | .ret => if s.sp = 0 then some .stackUnderflow else none
  | .call _ => if s.sp = 15 then some .stackOverflow else none
  | .drw _ _ n => if slicePasses s.index n.toNat then some .outOfBounds else none
  | .stRegs x | .ldRegs x => if slicePasses s.index (copyCount x) then some .outOfBounds else none
  | _ => none

/-- What an instruction that does not fault makes of everything but the call stack. -/
def dataEffect (s : State) : Instr → State
  | .cls => s.setFb (Vector.replicate 32 0#64)
  | .ldB x nn => s.setReg x nn
  | .addB x nn => s.setReg x (s.reg x + nn)
  | .ldR x y => s.setReg x (s.reg y)
  | .orR x y => s.setReg x (s.reg x ||| s.reg y)
  | .andR x y => s.setReg x (s.reg x &&& s.reg y)
  | .xorR x y => s.setReg x (s.reg x ^^^ s.reg y)
  | .addR x y => (s.setReg x (s.reg x + s.reg y)).setFlag (carryOf (s.reg x) (s.reg y))
  | .sub x y => (s.setReg x (s.reg x - s.reg y)).setSubFlag (s.reg x) (s.reg y)
  | .shr x _ => (s.setFlag (lowBit (s.reg x))).setReg x (s.reg x >>> 1)
  | .subn x y => (s.setReg x (s.reg y - s.reg x)).setFlag (exceeds (s.reg y) (s.reg x))
  | .shl x _ => (s.setFlag (highBit (s.reg x))).setReg x (s.reg x <<< 1)
  | .ldI nnn => s.setIndex nnn
  | .rnd x nn => s.consumeDraw.setReg x (s.draw &&& nn)
  | .drw x y n =>
    let drawn := drawSprite s.fb (s.reg x) (s.reg y) (s.mem.readBytes s.index n.toNat)
    (s.setFb drawn.1).setFlag drawn.2
  | .ldVDt x => s.setReg x s.dt
  | .ldK x => s.startWait x
  | .ldDt x => s.setDt (s.reg x)
  | .ldSt x => s.setSt (s.reg x)
  | .addI x => s.setIndex (addrPlusByte s.index (s.reg x))
  | .ldF x => s.setIndex (glyphAddr (s.reg x))
  | .ldBcd x => s.setMem (s.mem.writeBytes s.index (bcdDigits (s.reg x)))
  | .stRegs x => (s.setMem (s.mem.writeBytes s.index (s.regsUpTo x))).setIndex (s.indexPast x)
  | .ldRegs x => (s.setRegs (s.mem.readBytes s.index (copyCount x))).setIndex (s.indexPast x)
  | .ret | .sys _ | .jp _ | .call _ | .seB _ _ | .sneB _ _ | .seR _ _ | .sneR _ _ | .jpV0 _ | .skp _ | .sknp _ => s

/-- What an instruction that does not fault makes of the call stack: the ordinary advance unless it is a transfer of
control (R96, 43_control_transfer.md). -/
def transfer (s : State) : Instr → State
  | .ret => s.popFrame
  | .jp nnn => s.setPc nnn
  | .call nnn => s.advance.pushFrame nnn
  | .jpV0 nnn => s.setPc (addrPlusByte nnn (s.reg 0))
  | .seB x nn => s.skipIf (s.reg x == nn)
  | .sneB x nn => s.skipIf (s.reg x != nn)
  | .seR x y => s.skipIf (s.reg x == s.reg y)
  | .sneR x y => s.skipIf (s.reg x != s.reg y)
  | .skp x => s.skipIf (s.isPressed (nib (s.reg x)))
  | .sknp x => s.skipIf (!s.isPressed (nib (s.reg x)))
  | _ => s.advance

/-- The state after an instruction that does not fault. -/
def effect (i : Instr) (s : State) : State := transfer (dataEffect s i) i

/-! ## They are what `exec` does -/

theorem exec_ret (s : State) :
    exec .ret s = if s.sp = 0 then .next (s.raise .stackUnderflow) else .next s.popFrame := rfl

theorem exec_call (nnn : Addr) (s : State) :
    exec (.call nnn) s = if s.sp = 15 then .next (s.raise .stackOverflow) else .next (s.advance.pushFrame nnn) := rfl

theorem exec_drw (x y : Reg) (n : Nibble) (s : State) :
    exec (.drw x y n) s =
      if slicePasses s.index n.toNat then .next (s.raise .outOfBounds) else .next (effect (.drw x y n) s) := by
  change execDrw x y n s = _
  rcases s.mem.slice_eq s.index n.toNat with ⟨hp, e⟩ | ⟨hp, e⟩ <;> rw [execDrw, e]
  · rw [if_pos hp]
  · rw [if_neg hp]
    rfl

theorem exec_stRegs (x : Reg) (s : State) :
    exec (.stRegs x) s =
      if slicePasses s.index (copyCount x) then .next (s.raise .outOfBounds) else .next (effect (.stRegs x) s) := by
  change execStRegs x s = _
  have hlen : (s.regsUpTo x).length = copyCount x := s.length_regsUpTo x
  rcases s.mem.storeSlice_eq s.index (s.regsUpTo x) with ⟨hp, e⟩ | ⟨hp, e⟩ <;> rw [execStRegs, e] <;> rw [hlen] at hp
  · rw [if_pos hp]
  · rw [if_neg hp]
    rfl

theorem exec_ldRegs (x : Reg) (s : State) :
    exec (.ldRegs x) s =
      if slicePasses s.index (copyCount x) then .next (s.raise .outOfBounds) else .next (effect (.ldRegs x) s) := by
  change execLdRegs x s = _
  rcases s.mem.slice_eq s.index (copyCount x) with ⟨hp, e⟩ | ⟨hp, e⟩ <;> rw [execLdRegs, e]
  · rw [if_pos hp]
  · rw [if_neg hp]
    rfl

/-- An instruction whose cause of a fault is there raises it and does nothing else (R196). -/
theorem exec_of_faultOf_some {i : Instr} {s : State} {f : FatalFault} (h : faultOf s i = some f) :
    exec i s = .next (s.raise f) := by
  cases i with
  | ret => simp_all [faultOf, exec_ret]
  | call nnn => simp_all [faultOf, exec_call]
  | drw x y n => simp_all [faultOf, exec_drw]
  | stRegs x => simp_all [faultOf, exec_stRegs]
  | ldRegs x => simp_all [faultOf, exec_ldRegs]
  | _ => simp [faultOf] at h

/-- An instruction without a cause of a fault has its effect. -/
theorem exec_of_faultOf_none {i : Instr} {s : State} (h : faultOf s i = none) : exec i s = .next (effect i s) := by
  cases i with
  | ret => rw [exec_ret, if_neg (by simpa [faultOf] using h)]; rfl
  | call nnn => rw [exec_call, if_neg (by simpa [faultOf] using h)]; rfl
  | drw x y n => rw [exec_drw, if_neg (by simpa [faultOf] using h)]
  | stRegs x => rw [exec_stRegs, if_neg (by simpa [faultOf] using h)]
  | ldRegs x => rw [exec_ldRegs, if_neg (by simpa [faultOf] using h)]
  | _ => rfl

/-- All that an instruction can answer. -/
theorem exec_cases (i : Instr) (s : State) :
    (∃ f, faultOf s i = some f ∧ exec i s = .next (s.raise f)) ∨
      (faultOf s i = none ∧ exec i s = .next (effect i s)) := by
  cases h : faultOf s i with
  | some f => exact .inl ⟨f, rfl, exec_of_faultOf_some h⟩
  | none => exact .inr ⟨rfl, exec_of_faultOf_none h⟩

/-- All that an instruction that answered a next state can have done. -/
theorem of_exec_eq_next {i : Instr} {s t : State} (h : exec i s = .next t) :
    (∃ f, faultOf s i = some f ∧ t = s.raise f) ∨ (faultOf s i = none ∧ t = effect i s) := by
  rcases exec_cases i s with ⟨f, hf, e⟩ | ⟨hf, e⟩ <;> rw [e] at h <;> cases h
  · exact .inl ⟨f, hf, rfl⟩
  · exact .inr ⟨hf, rfl⟩

/-- Every instruction answers a next state. -/
theorem exists_exec_eq_next (i : Instr) (s : State) : ∃ t, exec i s = .next t := by
  rcases exec_cases i s with ⟨f, -, e⟩ | ⟨-, e⟩
  · exact ⟨_, e⟩
  · exact ⟨_, e⟩

/-- The computed cause is the table's (R191 to R193, R195). -/
theorem faultOf_eq_some_iff (s : State) (i : Instr) (f : FatalFault) : faultOf s i = some f ↔ raises s i f := by
  cases i with
  | ret | call _ | drw _ _ _ | stRegs _ | ldRegs _ => cases f <;> simp [faultOf, raises, copyCount, Nat.add_assoc]
  | _ => simp [faultOf, raises]

/-! ## Frames -/

/-- A transfer of control changes the stack and its pointer, and no other field. -/
theorem transfer_eq (s : State) (i : Instr) : ∃ stack sp, transfer s i = { s with stack := stack, sp := sp } := by
  have hskip (b : Bool) : ∃ stack sp, s.skipIf b = { s with stack := stack, sp := sp } := by
    cases b
    · exact ⟨_, _, rfl⟩
    · exact ⟨_, _, rfl⟩
  cases i with
  | seB _ _ | sneB _ _ | seR _ _ | sneR _ _ | skp _ | sknp _ => exact hskip _
  | _ => exact ⟨_, _, rfl⟩

theorem transfer_keepsAllBut (s : State) (i : Instr) : KeepsAllBut [.stack] s (transfer s i) := by
  obtain ⟨stack, sp, e⟩ := transfer_eq s i
  rw [e]
  intro p hp
  cases p with
  | stack => simp at hp
  | _ => simp [SamePart, State.reg, State.row]

/-- The parts that an instruction's effect may change, the stack apart: those of its row that a fault does not write. -/
def dataParts (i : Instr) : List Part := (partsWritten i).filter fun p => p ≠ .stack ∧ p ≠ .fault

theorem dataEffect_keepsAllBut (s : State) (i : Instr) : KeepsAllBut (dataParts i) s (dataEffect s i) := by
  cases i with
  | cls => exact s.setFb_keepsAllBut _
  | ldB _ _ | addB _ _ | ldR _ _ | orR _ _ | andR _ _ | xorR _ _ | ldVDt _ => exact s.setReg_keepsAllBut _ _
  | addR _ _ | subn _ _ => exact (s.setReg_keepsAllBut _ _).trans_same (State.setFlag_keepsAllBut _ _)
  | sub _ _ => exact (s.setReg_keepsAllBut _ _).trans_same (State.setSubFlag_keepsAllBut _ _ _)
  | shr _ _ | shl _ _ => exact (s.setFlag_keepsAllBut _).trans_same (State.setReg_keepsAllBut _ _ _)
  | rnd _ _ =>
    exact (s.consumeDraw_keepsAllBut.trans (State.setReg_keepsAllBut _ _ _)).mono (by simp [dataParts, partsWritten])
  | ldI _ | addI _ | ldF _ => exact s.setIndex_keepsAllBut _
  | drw _ _ _ =>
    exact ((s.setFb_keepsAllBut _).trans (State.setFlag_keepsAllBut _ _)).mono (by simp [dataParts, partsWritten])
  | ldK _ => exact s.startWait_keepsAllBut _
  | ldDt _ => exact s.setDt_keepsAllBut _
  | ldSt _ => exact s.setSt_keepsAllBut _
  | ldBcd _ => exact s.setMem_writeBytes_keepsAllBut _ _
  | stRegs _ => exact (s.setMem_writeBytes_keepsAllBut _ _).trans (State.setIndex_keepsAllBut _ _)
  | ldRegs _ => exact (s.setRegs_keepsAllBut _).trans (State.setIndex_keepsAllBut _ _)
  | _ => exact KeepsAllBut.refl _ s

/-- The effect of an instruction leaves the stack to its transfer. -/
theorem dataEffect_samePart_stack (s : State) (i : Instr) : SamePart s (dataEffect s i) .stack :=
  dataEffect_keepsAllBut s i .stack (by simp [dataParts])

theorem effect_keepsAllBut (i : Instr) (s : State) : KeepsAllBut (dataParts i ++ [.stack]) s (effect i s) :=
  (dataEffect_keepsAllBut s i).trans (transfer_keepsAllBut _ i)

theorem stack_mem_partsWritten (i : Instr) : Part.stack ∈ partsWritten i := by
  cases i <;> simp [partsWritten]

/-- Only an instruction whose row lists the fault latch can fault (R195). -/
theorem fault_mem_partsWritten {s : State} {i : Instr} {f : FatalFault} (h : faultOf s i = some f) :
    Part.fault ∈ partsWritten i := by
  cases i with
  | ret | call _ | drw _ _ _ | stRegs _ | ldRegs _ => simp [partsWritten]
  | _ => simp [faultOf] at h

/-- An instruction changes no part that its row does not list. -/
theorem exec_keepsAllBut {i : Instr} {s t : State} (h : exec i s = .next t) : KeepsAllBut (partsWritten i) s t := by
  rcases of_exec_eq_next h with ⟨f, hf, rfl⟩ | ⟨-, rfl⟩
  · exact (s.raise_keepsAllBut f).mono (by simpa using fault_mem_partsWritten hf)
  · refine (effect_keepsAllBut i s).mono fun p hp => ?_
    rcases List.mem_append.mp hp with hp | hp
    · exact List.mem_of_mem_filter hp
    · exact List.mem_singleton.mp hp ▸ stack_mem_partsWritten i

/-- An instruction that is no transfer of control and does not fault moves pc by two (R96). -/
theorem effect_pcMoves {i : Instr} (ht : ∀ s, transfer s i = s.advance) (s : State) :
    PcMoves s (effect i s) (s.pc + 2#12) := by
  rw [effect, ht]
  exact (dataEffect_samePart_stack s i).pcMoves_advance

end Sys2Proof.Machine
end

section
/-! PROOFS. The whole-machine rules on what an instruction writes: parts, registers, the stack, and the fault latch. -/

namespace Sys2Proof.Machine

/-! ## What a transfer of control leaves alone -/

@[simp] theorem reg_transfer (s : State) (i : Instr) (r : Reg) : (transfer s i).reg r = s.reg r :=
  transfer_keepsAllBut s i .regs (by simp) r

@[simp] theorem transfer_i (s : State) (i : Instr) : (transfer s i).i = s.i :=
  transfer_keepsAllBut s i .index (by simp)

@[simp] theorem transfer_draws (s : State) (i : Instr) : (transfer s i).draws = s.draws :=
  transfer_keepsAllBut s i .draws (by simp)

@[simp] theorem transfer_mem (s : State) (i : Instr) : (transfer s i).mem = s.mem := by
  obtain ⟨_, _, e⟩ := transfer_eq s i
  rw [e]

/-- An instruction that does not fault leaves the fault latch as it was. -/
theorem effect_fault (i : Instr) (s : State) : (effect i s).fault = s.fault :=
  (effect_keepsAllBut i s .fault (by simp [dataParts])).1

/-! ## Parts -/

/-- Settles O58: the frame of every instruction is its row, and RND consumes its one byte before anything else. -/
theorem nothingElseIsWritten : Obligations.NothingElseIsWritten := by
  intro i s t h
  refine ⟨exec_keepsAllBut h, ?_⟩
  rintro x nn rfl
  have ht := exec_of_faultOf_none (i := .rnd x nn) (s := s) rfl
  rw [ht] at h
  cases h
  simp [effect, dataEffect]

/-! ## Fatal faults -/

/-- Settles O39: an instruction either raises the fault of its cause, which is the two latches, or has no cause and
keeps the latch. -/
theorem fatalFaultsArePreciseAndCaused : Obligations.FatalFaultsArePreciseAndCaused := by
  intro i s t f hnone h
  rw [← faultOf_eq_some_iff]
  rcases of_exec_eq_next h with ⟨g, hg, rfl⟩ | ⟨hg, rfl⟩
  · rw [hg, State.raise_fault]
    refine ⟨Iff.rfl, fun e => ?_⟩
    cases e
    rfl
  · simp [hg, effect_fault, hnone]

/-! ## Registers -/

/-- Settles O53: a fault and a transfer write no register, and each data effect writes those of its row. -/
theorem onlyListedRegistersAreWritten : Obligations.OnlyListedRegistersAreWritten := by
  intro i s t r h hr
  rcases of_exec_eq_next h with ⟨f, -, rfl⟩ | ⟨-, rfl⟩
  · exact s.reg_raise f r
  rw [effect, reg_transfer]
  cases i with
  | ldB _ _ | addB _ _ | ldR _ _ | orR _ _ | andR _ _ | xorR _ _ | rnd _ _ | ldVDt _ =>
    simp only [writesReg] at hr
    simp [dataEffect, hr]
  | addR _ _ | sub _ _ | shr _ _ | subn _ _ | shl _ _ =>
    simp only [writesReg, not_or] at hr
    simp [dataEffect, hr.1, hr.2]
  | drw _ _ _ =>
    simp only [writesReg] at hr
    simp only [dataEffect, State.reg_setFlag, if_neg hr, State.reg_setFb]
  | ldRegs x =>
    have hlen : ¬ r.val < copyCount x := by
      simp only [writesReg, Fin.le_def] at hr
      simp only [copyCount]
      omega
    simp [dataEffect, State.reg_setRegs, hlen]
  | _ => rfl

/-! ## The call stack -/

/-- The three things a transfer of control can do to the stack: pop, push, or set the program counter. -/
theorem transfer_cases (s : State) (i : Instr) :
    (i = .ret ∧ transfer s i = s.popFrame) ∨ (∃ nnn, i = .call nnn ∧ transfer s i = s.advance.pushFrame nnn) ∨
      (∃ a, transfer s i = s.setPc a) := by
  have hskip (b : Bool) : ∃ a, s.skipIf b = s.setPc a := by
    cases b
    · exact ⟨_, rfl⟩
    · exact ⟨_, rfl⟩
  cases i with
  | ret => exact .inl ⟨rfl, rfl⟩
  | call nnn => exact .inr (.inl ⟨nnn, rfl, rfl⟩)
  | seB _ _ | sneB _ _ | seR _ _ | sneR _ _ | skp _ | sknp _ => exact .inr (.inr (hskip _))
  | _ => exact .inr (.inr ⟨_, rfl⟩)

/-- Above entry 0 the frame below is one less (R152). -/
theorem val_sub_one_add_one : ∀ {p : Fin 16}, p ≠ 0 → (p - 1).val + 1 = p.val := by decide

/-- Below the last entry the next frame is one more (R154). -/
theorem val_add_one : ∀ {p : Fin 16}, p ≠ 15 → (p + 1).val = p.val + 1 := by decide

theorem sp_ne_zero_of_faultOf {s : State} (h : faultOf s .ret = none) : s.sp ≠ 0 := by simpa [faultOf] using h

theorem sp_ne_last_of_faultOf {s : State} {nnn : Addr} (h : faultOf s (.call nnn) = none) : s.sp ≠ 15 := by
  simpa [faultOf] using h

/-- Settles O57: a fault and a data effect leave the stack alone, and a transfer pops, pushes or writes the active
frame. -/
theorem onlyCallAndReturnMoveTheStack : Obligations.OnlyCallAndReturnMoveTheStack := by
  intro i s t h
  rcases of_exec_eq_next h with ⟨f, -, rfl⟩ | ⟨hf, rfl⟩
  · exact ⟨.inl rfl, fun k _ _ => rfl⟩
  obtain ⟨hsp, hentry⟩ := dataEffect_samePart_stack s i
  rcases transfer_cases (dataEffect s i) i with ⟨rfl, e⟩ | ⟨nnn, rfl, e⟩ | ⟨a, e⟩ <;> rw [effect, e]
  · exact ⟨.inr (.inr ⟨rfl, val_sub_one_add_one (sp_ne_zero_of_faultOf hf)⟩), fun k _ _ => rfl⟩
  · refine ⟨.inr (.inl ⟨⟨nnn, rfl⟩, val_add_one (sp_ne_last_of_faultOf (nnn := nnn) hf)⟩), fun k hk hk' => ?_⟩
    rw [State.pushFrame_sp, State.advance_sp] at hk'
    rw [State.entry_pushFrame, State.advance_sp, if_neg hk', State.entry_advance, hsp, if_neg hk, hentry]
  · refine ⟨.inl hsp, fun k hk _ => ?_⟩
    rw [State.entry_setPc, hsp, if_neg hk, hentry]

end Sys2Proof.Machine
end

section
/-! PROOFS. The whole-machine rules on what has no influence: registers not read, the sound timer, dead frames. -/

namespace Sys2Proof.Machine

/-! ## Registers that are not read -/

/-- Two states that differ in one register at most. -/
structure SameButReg (r : Reg) (s u : State) : Prop where
  onlyRegs : ∃ v, u = { s with v := v }
  others : ∀ q, q ≠ r → u.reg q = s.reg q

section

variable {r : Reg} {s u : State}

theorem sameButReg_setReg (r : Reg) (s : State) (b : Byte) : SameButReg r s (s.setReg r b) :=
  ⟨⟨_, rfl⟩, fun q hq => by simp [hq]⟩

theorem SameButReg.keepsAllBut (h : SameButReg r s u) : KeepsAllBut [.regs] s u := by
  obtain ⟨⟨v, rfl⟩, -⟩ := h
  intro p hp
  cases p with
  | regs => simp at hp
  | _ => simp [SamePart, State.entry, State.row]

/-- The same byte written to the same register of both. -/
theorem SameButReg.setReg (h : SameButReg r s u) (x : Reg) (b : Byte) : SameButReg r (s.setReg x b) (u.setReg x b) := by
  obtain ⟨⟨v, rfl⟩, hq⟩ := h
  exact ⟨⟨_, rfl⟩, fun q hne => by simp [hq q hne]⟩

/-- The same flag set in both. -/
theorem SameButReg.setFlag (h : SameButReg r s u) (b : Bool) : SameButReg r (s.setFlag b) (u.setFlag b) :=
  h.setReg regVF (flagByte b)

/-- The same subtract flag set in both. -/
theorem SameButReg.setSubFlag (h : SameButReg r s u) (p q : Byte) :
    SameButReg r (s.setSubFlag p q) (u.setSubFlag p q) := by
  unfold State.setSubFlag
  split
  · exact h.setFlag true
  · exact h

/-- The same bytes written to both from V0 upward. -/
theorem SameButReg.setRegs (h : SameButReg r s u) (bs : List Byte) : SameButReg r (s.setRegs bs) (u.setRegs bs) := by
  obtain ⟨⟨v, rfl⟩, hq⟩ := h
  exact ⟨⟨_, rfl⟩, fun q hne => by simp [State.reg_setRegs, hq q hne]⟩

/-- The program counter set alike in both. -/
theorem SameButReg.setPc (h : SameButReg r s u) (a : Addr) : SameButReg r (s.setPc a) (u.setPc a) := by
  obtain ⟨⟨v, rfl⟩, hq⟩ := h
  exact ⟨⟨v, rfl⟩, hq⟩

/-- The same skip in both. -/
theorem SameButReg.skipIf (h : SameButReg r s u) (b : Bool) : SameButReg r (s.skipIf b) (u.skipIf b) := by
  have hpc : u.pc = s.pc := by rw [h.onlyRegs.choose_spec]; rfl
  unfold State.skipIf State.advance
  rw [hpc]
  split
  · exact h.setPc _
  · exact h.setPc _

/-- Two states whose registers up to `Vx` hold the same bytes store the same block. -/
theorem regsUpTo_congr {x : Reg} (h : ∀ q, q ≤ x → u.reg q = s.reg q) : u.regsUpTo x = s.regsUpTo x := by
  refine List.ext_getElem (by simp only [State.length_regsUpTo]) fun k hk _ => ?_
  rw [State.getElem_regsUpTo, State.getElem_regsUpTo]
  rw [State.length_regsUpTo] at hk
  exact h _ (Fin.le_def.mpr (by simpa using Nat.le_of_lt_succ hk))

end

/-- What an instruction reads is the same in both when it does not read the one register. -/
theorem SameButReg.reg_of_reads {r : Reg} {s u : State} (h : SameButReg r s u) {i : Instr} (hr : ¬ readsReg r i)
    (q : Reg) (hq : readsReg q i) : u.reg q = s.reg q :=
  h.others q fun e => hr (e ▸ hq)

theorem SameButReg.raise {r : Reg} {s u : State} (h : SameButReg r s u) (f : FatalFault) :
    SameButReg r (s.raise f) (u.raise f) := by
  obtain ⟨⟨v, rfl⟩, hq⟩ := h
  exact ⟨⟨v, rfl⟩, hq⟩

/-- Which fault an instruction raises depends on no register. -/
theorem SameButReg.faultOf_eq {r : Reg} {s u : State} (h : SameButReg r s u) (i : Instr) :
    faultOf u i = faultOf s i := by
  obtain ⟨⟨v, rfl⟩, -⟩ := h
  cases i <;> rfl

/-- A data effect that does not read the register. -/
theorem SameButReg.afterDataEffect {r : Reg} {s u : State} (h : SameButReg r s u) {i : Instr} (hr : ¬ readsReg r i) :
    SameButReg r (dataEffect s i) (dataEffect u i) := by
  have hread := h.reg_of_reads hr
  have ⟨⟨v, hu⟩, hq⟩ := h
  subst hu
  cases i with
  | ldB x _ | ldVDt x => exact h.setReg x _
  | addB x _ =>
    simp only [dataEffect, hread x rfl]
    exact h.setReg x _
  | ldR x y =>
    simp only [dataEffect, hread y rfl]
    exact h.setReg x _
  | orR x y | andR x y | xorR x y =>
    simp only [dataEffect, hread x (.inl rfl), hread y (.inr rfl)]
    exact h.setReg x _
  | addR x y | subn x y =>
    simp only [dataEffect, hread x (.inl rfl), hread y (.inr rfl)]
    exact (h.setReg x _).setFlag _
  | sub x y =>
    simp only [dataEffect, hread x (.inl rfl), hread y (.inr rfl)]
    exact (h.setReg x _).setSubFlag _ _
  | shr x _ | shl x _ =>
    simp only [dataEffect, hread x rfl]
    exact (h.setFlag _).setReg x _
  | rnd x nn =>
    have hdrawn : SameButReg r s.consumeDraw ({ s with v := v } : State).consumeDraw := ⟨⟨v, rfl⟩, hq⟩
    exact hdrawn.setReg x (s.draw &&& nn)
  | drw x y n =>
    simp only [dataEffect, hread x (.inl rfl), hread y (.inr rfl)]
    have hfb f : SameButReg r (s.setFb f) (({ s with v := v } : State).setFb f) := ⟨⟨v, rfl⟩, hq⟩
    exact (hfb _).setFlag _
  | ldDt x | ldSt x | addI x | ldF x | ldBcd x =>
    simp only [dataEffect, hread x rfl]
    exact ⟨⟨v, rfl⟩, hq⟩
  | stRegs x =>
    simp only [dataEffect, regsUpTo_congr hread]
    exact ⟨⟨v, rfl⟩, hq⟩
  | ldRegs x =>
    have hregs := h.setRegs (s.mem.readBytes s.index (copyCount x))
    exact ⟨⟨_, rfl⟩, hregs.others⟩
  | _ => exact ⟨⟨v, rfl⟩, hq⟩

/-- A transfer of control that does not read the register. -/
theorem SameButReg.afterTransfer {r : Reg} {s u : State} (h : SameButReg r s u) {i : Instr} (hr : ¬ readsReg r i) :
    SameButReg r (transfer s i) (transfer u i) := by
  have hread := h.reg_of_reads hr
  have ⟨⟨v, hu⟩, hq⟩ := h
  subst hu
  cases i with
  | seB x _ | sneB x _ | skp x | sknp x =>
    simp only [transfer, hread x rfl]
    exact h.skipIf _
  | seR x y | sneR x y =>
    simp only [transfer, hread x (.inl rfl), hread y (.inr rfl)]
    exact h.skipIf _
  | jpV0 nnn =>
    simp only [transfer, hread 0 rfl]
    exact h.setPc _
  | _ => exact ⟨⟨v, rfl⟩, hq⟩

/-- Settles O54: the cause of a fault reads no register, and the data effect and then the transfer read only those of
the row, so that two states equal but in the register stay so. -/
theorem unreadRegistersHaveNoInfluence : Obligations.UnreadRegistersHaveNoInfluence := by
  intro i s t r b hr h
  have hsame := sameButReg_setReg r s b
  suffices ∃ u, exec i (s.setReg r b) = .next u ∧ SameButReg r t u by
    obtain ⟨u, hu, htu⟩ := this
    exact ⟨u, hu, htu.others, htu.keepsAllBut⟩
  rcases of_exec_eq_next h with ⟨f, hf, rfl⟩ | ⟨hf, rfl⟩ <;> rw [← hsame.faultOf_eq] at hf
  · exact ⟨_, exec_of_faultOf_some hf, hsame.raise f⟩
  · exact ⟨_, exec_of_faultOf_none hf, (hsame.afterDataEffect hr).afterTransfer hr⟩

/-! ## The sound timer -/

/-- The subtract flag is a choice of two register files and nothing else. -/
theorem State.setSubFlag_eq (s : State) (p q : Byte) :
    s.setSubFlag p q = { s with v := if exceeds p q then (s.setFlag true).v else s.v } := by
  unfold State.setSubFlag
  split
  · rfl
  · rfl

/-- Which fault an instruction raises does not depend on the sound timer. -/
theorem faultOf_setSt (s : State) (b : Byte) (i : Instr) : faultOf (s.setSt b) i = faultOf s i := by
  cases i <;> rfl

/-- A data effect other than LD ST and the sound timer are independent. -/
theorem dataEffect_setSt (s : State) (b : Byte) {i : Instr} (hi : ∀ x, i ≠ .ldSt x) :
    dataEffect (s.setSt b) i = (dataEffect s i).setSt b := by
  cases i with
  | ldSt x => exact absurd rfl (hi x)
  | sub x y =>
    simp only [dataEffect, State.setSubFlag_eq]
    rfl
  | _ => rfl

/-- A transfer of control and the sound timer are independent. -/
theorem transfer_setSt (s : State) (b : Byte) (i : Instr) : transfer (s.setSt b) i = (transfer s i).setSt b := by
  have hskip (taken : Bool) : (s.setSt b).skipIf taken = (s.skipIf taken).setSt b := by
    cases taken
    · rfl
    · rfl
  cases i with
  | seB _ _ | sneB _ _ | seR _ _ | sneR _ _ | skp _ | sknp _ => exact hskip _
  | _ => rfl

/-- LD ST overwrites the sound timer, so what it held is gone (R177). -/
theorem exec_ldSt_setSt (x : Reg) (s : State) (b : Byte) : exec (.ldSt x) (s.setSt b) = exec (.ldSt x) s := rfl

/-- An instruction other than LD ST does to a state with another sound timer what it does to the state. -/
theorem exec_setSt {i : Instr} {s t : State} (b : Byte) (hi : ∀ x, i ≠ .ldSt x) (h : exec i s = .next t) :
    exec i (s.setSt b) = .next (t.setSt b) := by
  rcases of_exec_eq_next h with ⟨f, hf, rfl⟩ | ⟨hf, rfl⟩ <;> rw [← faultOf_setSt s b] at hf
  · exact exec_of_faultOf_some hf
  · rw [exec_of_faultOf_none hf, effect, dataEffect_setSt s b hi, transfer_setSt, effect]

/-- Settles O55: LD ST forgets the old value, and every other instruction carries the new one along. -/
theorem soundTimerHasNoInfluence : Obligations.SoundTimerHasNoInfluence := by
  intro i s t b h
  by_cases hi : ∃ x, i = .ldSt x
  · obtain ⟨x, rfl⟩ := hi
    exact ⟨t, (exec_ldSt_setSt x s b).trans h, KeepsAllBut.refl _ t, fun hne => absurd rfl (hne x)⟩
  · have hne : ∀ x, i ≠ .ldSt x := fun x e => hi ⟨x, e⟩
    exact ⟨t.setSt b, exec_setSt b hne h, t.setSt_keepsAllBut b, fun _ => rfl⟩

/-! ## Dead stack entries -/

/-- Two states that differ in stack entries above the active frame at most. -/
structure SameLiveFrames (s u : State) : Prop where
  onlyStack : ∃ stack, u = { s with stack := stack }
  live : ∀ k, k ≤ s.sp → u.entry k = s.entry k

section

variable {s u : State}

theorem SameLiveFrames.sp (h : SameLiveFrames s u) : u.sp = s.sp := by
  obtain ⟨⟨stack, rfl⟩, -⟩ := h
  rfl

theorem SameLiveFrames.pc (h : SameLiveFrames s u) : u.pc = s.pc := by
  rw [State.pc_eq_entry, h.sp, h.live s.sp le_rfl, State.pc_eq_entry]

theorem SameLiveFrames.keepsAllBut (h : SameLiveFrames s u) : KeepsAllBut [.stack] s u := by
  obtain ⟨⟨stack, rfl⟩, -⟩ := h
  intro p hp
  cases p with
  | stack => simp at hp
  | _ => simp [SamePart, State.reg, State.row]

theorem SameLiveFrames.raise (h : SameLiveFrames s u) (f : FatalFault) : SameLiveFrames (s.raise f) (u.raise f) := by
  have hpc := h.pc
  obtain ⟨⟨stack, rfl⟩, hlive⟩ := h
  refine ⟨⟨stack, ?_⟩, hlive⟩
  simp only [State.raise, hpc]

/-- The program counter set alike in both. -/
theorem SameLiveFrames.setPc (h : SameLiveFrames s u) (a : Addr) : SameLiveFrames (s.setPc a) (u.setPc a) := by
  refine ⟨?_, fun k hk => ?_⟩
  · obtain ⟨⟨stack, rfl⟩, -⟩ := h
    exact ⟨_, rfl⟩
  · rw [State.entry_setPc, State.entry_setPc, h.sp, h.live k hk]

theorem SameLiveFrames.advance (h : SameLiveFrames s u) : SameLiveFrames s.advance u.advance := by
  unfold State.advance
  rw [h.pc]
  exact h.setPc _

/-- The same skip in both. -/
theorem SameLiveFrames.skipIf (h : SameLiveFrames s u) (b : Bool) : SameLiveFrames (s.skipIf b) (u.skipIf b) := by
  unfold State.skipIf
  rw [h.pc]
  split
  · exact h.setPc _
  · exact h.advance

/-- A push overwrites the one dead entry that it makes live. -/
theorem SameLiveFrames.pushFrame (h : SameLiveFrames s u) (hsp : s.sp ≠ 15) (a : Addr) :
    SameLiveFrames (s.pushFrame a) (u.pushFrame a) := by
  refine ⟨?_, fun k hk => ?_⟩
  · obtain ⟨⟨stack, rfl⟩, -⟩ := h
    exact ⟨_, rfl⟩
  · rw [State.entry_pushFrame, State.entry_pushFrame, h.sp]
    split_ifs with hnew
    · rfl
    · have hval := val_add_one hsp
      rw [State.pushFrame_sp, Fin.le_def] at hk
      rw [Fin.ext_iff] at hnew
      exact h.live k (Fin.le_def.mpr (by omega))

/-- A pop makes an entry dead and none live. -/
theorem SameLiveFrames.popFrame (h : SameLiveFrames s u) (hsp : s.sp ≠ 0) :
    SameLiveFrames s.popFrame u.popFrame := by
  refine ⟨?_, fun k hk => ?_⟩
  · obtain ⟨⟨stack, rfl⟩, -⟩ := h
    exact ⟨_, rfl⟩
  · have hval := val_sub_one_add_one hsp
    rw [State.popFrame_sp, Fin.le_def] at hk
    rw [State.entry_popFrame, State.entry_popFrame]
    exact h.live k (Fin.le_def.mpr (by omega))

/-- Which fault an instruction raises depends on no stack entry. -/
theorem SameLiveFrames.faultOf_eq (h : SameLiveFrames s u) (i : Instr) : faultOf u i = faultOf s i := by
  obtain ⟨⟨stack, rfl⟩, -⟩ := h
  cases i <;> rfl

/-- A data effect neither reads nor writes the stack. -/
theorem SameLiveFrames.afterDataEffect (h : SameLiveFrames s u) (i : Instr) :
    SameLiveFrames (dataEffect s i) (dataEffect u i) := by
  obtain ⟨hsp, hentry⟩ := dataEffect_samePart_stack s i
  obtain ⟨-, hentry'⟩ := dataEffect_samePart_stack u i
  refine ⟨?_, fun k hk => ?_⟩
  · obtain ⟨⟨stack, rfl⟩, -⟩ := h
    cases i with
    | sub x y =>
      simp only [dataEffect, State.setSubFlag_eq]
      exact ⟨stack, rfl⟩
    | _ => exact ⟨stack, rfl⟩
  · rw [hentry, hentry', h.live k (hsp ▸ hk)]

/-- An instruction that does not fault reads no dead entry: it pops or pushes a frame that is there, or sets the program
counter. -/
theorem SameLiveFrames.effect (h : SameLiveFrames s u) {i : Instr} (hf : faultOf s i = none) :
    SameLiveFrames (effect i s) (effect i u) := by
  have ⟨⟨stack, hu⟩, _⟩ := h
  subst hu
  cases i with
  | ret => exact h.popFrame (sp_ne_zero_of_faultOf hf)
  | call nnn => exact h.advance.pushFrame (sp_ne_last_of_faultOf (nnn := nnn) hf) nnn
  | jp _ | jpV0 _ => exact h.setPc _
  | seB _ _ | sneB _ _ | seR _ _ | sneR _ _ | skp _ | sknp _ => exact h.skipIf _
  | _ => exact (h.afterDataEffect _).advance

end

/-- Settles O56: neither the cause of a fault nor the effect reads a dead entry. -/
theorem deadFramesHaveNoInfluence : Obligations.DeadFramesHaveNoInfluence := by
  intro i s t dead hdead h
  have hsame : SameLiveFrames s { s with stack := dead } := ⟨⟨dead, rfl⟩, hdead⟩
  suffices ∃ u, exec i { s with stack := dead } = .next u ∧ SameLiveFrames t u by
    obtain ⟨u, hu, htu⟩ := this
    exact ⟨u, hu, htu.sp, htu.live, htu.keepsAllBut⟩
  have hcause := hsame.faultOf_eq i
  rcases of_exec_eq_next h with ⟨f, hf, rfl⟩ | ⟨hf, rfl⟩
  · exact ⟨_, exec_of_faultOf_some (hcause.trans hf), hsame.raise f⟩
  · exact ⟨_, exec_of_faultOf_none (hcause.trans hf), hsame.effect hf⟩

end Sys2Proof.Machine
end

section
/-! PROOFS. The register and ALU instructions. -/

namespace Sys2Proof.Machine

/-! ## Byte arithmetic -/

theorem toNat_flagByte_carryOf (p q : Byte) :
    (flagByte (carryOf p q)).toNat = if p.toNat + q.toNat > 255 then 1 else 0 := by
  by_cases h : p.toNat + q.toNat > 255 <;> simp [carryOf, flagByte, h]

theorem toNat_flagByte_exceeds (p q : Byte) :
    (flagByte (exceeds p q)).toNat = if p.toNat > q.toNat then 1 else 0 := by
  by_cases h : q.toNat < p.toNat <;> simp [exceeds, flagByte, h]

/-- The bit that a right shift moves out is the remainder by two. -/
theorem toNat_flagByte_lowBit (p : Byte) : (flagByte (lowBit p)).toNat = p.toNat % 2 := by
  revert p; decide

/-- The bit that a left shift moves out is the quotient by 128. -/
theorem toNat_flagByte_highBit (p : Byte) : (flagByte (highBit p)).toNat = p.toNat / 128 := by
  revert p; decide

theorem toNat_byte_add (p q : Byte) : (p + q).toNat = (p.toNat + q.toNat) % 256 := BitVec.toNat_add p q

theorem toNat_byte_sub (p q : Byte) : (p - q).toNat = (p.toNat + 256 - q.toNat) % 256 := by
  rw [BitVec.toNat_sub]
  omega

theorem toNat_shiftRight_one (p : Byte) : (p >>> 1).toNat = p.toNat / 2 := by
  rw [BitVec.toNat_ushiftRight, Nat.shiftRight_one]

theorem toNat_shiftLeft_one (p : Byte) : (p <<< 1).toNat = p.toNat * 2 % 256 := by
  rw [BitVec.toNat_shiftLeft, Nat.shiftLeft_eq]

/-! ## One register, no flag -/

/-- An instruction whose effect is one register write and the ordinary advance. -/
theorem exists_exec_writesReg {i : Instr} {s : State} {x : Reg} {b : Byte}
    (h : exec i s = .next (s.setReg x b).advance) : ∃ t, exec i s = .next t ∧ WritesReg s t x b :=
  ⟨_, h, s.setReg_advance_writesReg x b⟩

/-- Settles O6: one register write of the byte sum, which wraps. -/
theorem addByteWrapsWithoutFlag : Obligations.AddByteWrapsWithoutFlag := fun x nn s =>
  ⟨_, s.reg x + nn, rfl, s.setReg_advance_writesReg x _, toNat_byte_add _ nn⟩

/-- Settles O7: each form is one register write of a byte made bit by bit. -/
theorem moveAndLogicWriteNoFlag : Obligations.MoveAndLogicWriteNoFlag := fun x y s =>
  ⟨exists_exec_writesReg rfl,
    ⟨_, s.reg x ||| s.reg y, rfl, s.setReg_advance_writesReg x _, fun _ => BitVec.getLsbD_or⟩,
    ⟨_, s.reg x &&& s.reg y, rfl, s.setReg_advance_writesReg x _, fun _ => BitVec.getLsbD_and⟩,
    ⟨_, s.reg x ^^^ s.reg y, rfl, s.setReg_advance_writesReg x _, fun _ => BitVec.getLsbD_xor⟩⟩

/-! ## A result and a flag, in the order of D8 -/

/-- Settles O8: the sum is written before the flag, so the flag is what VF ends with. -/
theorem addRegistersSumThenCarry : Obligations.AddRegistersSumThenCarry := by
  intro x y s
  refine ⟨effect (.addR x y) s, rfl, fun r => ?_, effect_pcMoves (fun _ => rfl) s, effect_keepsAllBut (.addR x y) s⟩
  simp only [effect, reg_transfer, dataEffect, State.reg_setFlag, State.reg_setReg, apply_ite BitVec.toNat,
    toNat_flagByte_carryOf, toNat_byte_add]

/-- Settles O9: the flag is written after the difference, and only on the path of the strict comparison. -/
theorem subtractForwardKeepsFlagOnNoCarry : Obligations.SubtractForwardKeepsFlagOnNoCarry := by
  intro x y s
  refine ⟨effect (.sub x y) s, rfl, fun r => ?_, effect_pcMoves (fun _ => rfl) s, effect_keepsAllBut (.sub x y) s⟩
  simp only [effect, reg_transfer, dataEffect, State.reg_setSubFlag, State.reg_setReg, apply_ite BitVec.toNat,
    toNat_byte_sub, gt_iff_lt]
  rfl

/-- Settles O10: the flag is written after the difference on both paths of the comparison. -/
theorem subtractReverseWritesFlagOnBothPaths : Obligations.SubtractReverseWritesFlagOnBothPaths := by
  intro x y s
  refine ⟨effect (.subn x y) s, rfl, fun r => ?_, effect_pcMoves (fun _ => rfl) s, effect_keepsAllBut (.subn x y) s⟩
  simp only [effect, reg_transfer, dataEffect, State.reg_setFlag, State.reg_setReg, apply_ite BitVec.toNat,
    toNat_flagByte_exceeds, toNat_byte_sub]

/-- Settles O11: the flag is written before the shifted byte, so the byte is what VF ends with; y is nowhere read. -/
theorem shiftsWriteFlagThenResult : Obligations.ShiftsWriteFlagThenResult := by
  intro x y s
  constructor
  · refine ⟨effect (.shr x y) s, rfl, fun r => ?_, effect_pcMoves (fun _ => rfl) s, effect_keepsAllBut (.shr x y) s⟩
    simp only [effect, reg_transfer, dataEffect, State.reg_setFlag, State.reg_setReg, apply_ite BitVec.toNat,
      toNat_flagByte_lowBit, toNat_shiftRight_one]
  · refine ⟨effect (.shl x y) s, rfl, fun r => ?_, effect_pcMoves (fun _ => rfl) s, effect_keepsAllBut (.shl x y) s⟩
    simp only [effect, reg_transfer, dataEffect, State.reg_setFlag, State.reg_setReg, apply_ite BitVec.toNat,
      toNat_flagByte_highBit, toNat_shiftLeft_one]

/-- Settles O12: the byte drawn is the source's at the count before, which the draw raises by one. -/
theorem randomByteIsMasked : Obligations.RandomByteIsMasked := by
  intro x nn s
  refine ⟨effect (.rnd x nn) s, rfl, fun r => ?_, rfl, effect_pcMoves (fun _ => rfl) s,
    (effect_keepsAllBut (.rnd x nn) s).mono (by simp [dataParts, partsWritten])⟩
  simp only [effect, reg_transfer, dataEffect, State.reg_setReg, State.reg_consumeDraw]
  rfl

end Sys2Proof.Machine
end

section
/-! PROOFS. The timer moves, the start and the end of a wait for a key, the key events and the reads of the host. -/

namespace Sys2Proof.Machine

/-- Settles O28: one register write, and one write of each timer. -/
theorem timerMovesCopyTheByte : Obligations.TimerMovesCopyTheByte := fun x s =>
  ⟨exists_exec_writesReg rfl,
    ⟨effect (.ldDt x) s, rfl, rfl, effect_pcMoves (fun _ => rfl) s, effect_keepsAllBut (.ldDt x) s⟩,
    ⟨effect (.ldSt x) s, rfl, rfl, effect_pcMoves (fun _ => rfl) s, effect_keepsAllBut (.ldSt x) s⟩⟩

/-- Settles O30: the start of the wait writes its latches and the mode, and the advance follows. -/
theorem waitForKeyStartsWaiting : Obligations.WaitForKeyStartsWaiting := fun x s =>
  ⟨effect (.ldK x) s, rfl, rfl, rfl, rfl, effect_pcMoves (fun _ => rfl) s, effect_keepsAllBut (.ldK x) s⟩

/-- Settles O46: the event is one write of the slot, with the key reduced mod 16. -/
theorem pressKeyOverwritesTheSlot : Obligations.PressKeyOverwritesTheSlot := fun s k =>
  ⟨s.setKbd (some (keyNibble k)), keyNibble k, rfl, s.setKbd_kbd _, BitVec.toNat_ofNat k 4, s.setKbd_keepsAllBut _⟩

/-- Settles O48: the event leaves the state, and the rows returned are the frame buffer's. -/
theorem readFramebufferChangesNothing : Obligations.ReadFramebufferChangesNothing := fun _ => ⟨rfl, fun _ => rfl⟩

/-- Settles O60: the event leaves the state, and each value returned is the field of its name. -/
theorem readStatusReturnsTheReports : Obligations.ReadStatusReturnsTheReports := fun _ =>
  ⟨rfl, rfl, rfl, rfl, rfl, rfl, rfl, rfl⟩

end Sys2Proof.Machine
end

section
/-! PROOFS. Control transfer. -/

namespace Sys2Proof.Machine

theorem State.setPc_pcMoves (s : State) (a : Addr) : PcMoves s (s.setPc a) a where
  sp := rfl
  pc := s.pc_setPc a
  others k hk := by simp [hk]

/-- The sum of an address and a byte wraps at 4096 (R141, R159). -/
theorem toNat_addrPlusByte (a : Addr) (b : Byte) : (addrPlusByte a b).toNat = (a.toNat + b.toNat) % 4096 := by
  have hb : (b.setWidth 12).toNat = b.toNat := by
    rw [BitVec.toNat_setWidth, Nat.mod_eq_of_lt (by omega)]
  rw [addrPlusByte, BitVec.toNat_add, hb]

/-- Settles O20: each jump writes the active frame with its target. -/
theorem jumpsReplaceTheActiveAddress : Obligations.JumpsReplaceTheActiveAddress := fun nnn s =>
  ⟨⟨_, rfl, s.setPc_pcMoves nnn, transfer_keepsAllBut s (.jp nnn)⟩,
    ⟨_, _, rfl, s.setPc_pcMoves _, toNat_addrPlusByte nnn (s.reg 0), transfer_keepsAllBut s (.jpV0 nnn)⟩⟩

/-- Settles O24: each instruction is one skip on the Boolean of its comparison. -/
theorem valueSkipsTakeTheirCondition : Obligations.ValueSkipsTakeTheirCondition := fun x y _ s =>
  ⟨⟨_, rfl, s.skipIf_skips beq_iff_eq⟩, ⟨_, rfl, s.skipIf_skips bne_iff_ne⟩,
    ⟨_, rfl, s.skipIf_skips (b := s.reg x == s.reg y) beq_iff_eq⟩,
    ⟨_, rfl, s.skipIf_skips (b := s.reg x != s.reg y) bne_iff_ne⟩⟩

/-- A call below the last entry is the advance and the push. -/
theorem exec_call_of_sp_ne {s : State} (h : s.sp ≠ 15) (nnn : Addr) :
    exec (.call nnn) s = .next (s.advance.pushFrame nnn) := by rw [exec_call, if_neg h]

/-- A return above entry 0 is the pop. -/
theorem exec_ret_of_sp_ne {s : State} (h : s.sp ≠ 0) : exec .ret s = .next s.popFrame := by rw [exec_ret, if_neg h]

/-- Below the last entry the caller's frame holds the return address under the new frame. -/
theorem entry_call_caller {s : State} (h : s.sp ≠ 15) (nnn : Addr) :
    (s.advance.pushFrame nnn).entry s.sp = s.pc + 2#12 := by
  have hval := val_add_one h
  have hne : s.sp ≠ s.sp + 1 := fun e => by rw [Fin.ext_iff] at e; omega
  rw [State.entry_pushFrame, State.advance_sp, if_neg hne, State.entry_advance, if_pos rfl]

/-- A call leaves every entry alone but the caller's and the new one. -/
theorem entry_call_others {s : State} (nnn : Addr) {k : Fin 16} (hk : k ≠ s.sp) (hnew : k ≠ s.sp + 1) :
    (s.advance.pushFrame nnn).entry k = s.entry k := by
  rw [State.entry_pushFrame, State.advance_sp, if_neg hnew, State.entry_advance, if_neg hk]

/-- Settles O21: the overflow is the fault of the table, and otherwise the advance goes to the caller's frame and the
push makes the new one. -/
theorem callPushesOrOverflows : Obligations.CallPushesOrOverflows := by
  intro nnn s
  constructor
  · intro hlast
    rw [exec_call, if_pos hlast]
    rfl
  · intro hsp
    have hval := val_add_one hsp
    refine ⟨_, exec_call_of_sp_ne hsp nnn, hval, State.pc_pushFrame _ nnn, entry_call_caller hsp nnn,
      fun k hk hnew => entry_call_others nnn hk fun e => hnew (by rw [e, hval]), transfer_keepsAllBut s (.call nnn)⟩

/-- Settles O22: the underflow is the fault of the table, and otherwise only the stack pointer moves. -/
theorem returnPopsOrUnderflows : Obligations.ReturnPopsOrUnderflows := by
  intro s
  constructor
  · intro hzero
    rw [exec_ret, if_pos hzero]
    rfl
  · intro hsp
    exact ⟨_, exec_ret_of_sp_ne hsp, val_sub_one_add_one hsp, s.pc_popFrame, fun k _ => rfl,
      transfer_keepsAllBut s .ret⟩

/-- Settles O23: the pop uncovers the caller's frame, where the call left the return address. -/
theorem callThenReturnComesBack : Obligations.CallThenReturnComesBack := by
  intro nnn s hsp
  have hval := val_add_one hsp
  have hback : (s.advance.pushFrame nnn).popFrame.sp = s.sp := by simp
  have hpushed : (s.advance.pushFrame nnn).sp ≠ 0 := fun e => by
    rw [State.pushFrame_sp, State.advance_sp, Fin.ext_iff, hval] at e
    simp at e
  refine ⟨_, _, exec_call_of_sp_ne hsp nnn, exec_ret_of_sp_ne hpushed, ?_, hback, fun k hk => ?_, ?_⟩
  · rw [State.pc_eq_entry, hback, State.entry_popFrame, entry_call_caller hsp]
  · rw [State.entry_popFrame]
    refine entry_call_others nnn (fun e => ?_) fun e => ?_ <;> rw [e] at hk <;> omega
  · exact (transfer_keepsAllBut s (.call nnn)).trans_same (transfer_keepsAllBut _ .ret)

end Sys2Proof.Machine
end

section
/-! PROOFS. The index register and the instructions that store to memory or load from it. -/

namespace Sys2Proof.Machine

@[simp] theorem index_transfer (s : State) (i : Instr) : (transfer s i).index = s.index := by
  rw [State.index, transfer_i, State.index]

/-- Settles O13: each form is one index write and the advance. -/
theorem indexLoadsAndWraps : Obligations.IndexLoadsAndWraps := fun s =>
  ⟨fun nnn => ⟨_, rfl, s.setIndex_advance_writesIndex nnn⟩,
    fun x => ⟨_, _, rfl, s.setIndex_advance_writesIndex _, toNat_addrPlusByte s.index (s.reg x)⟩⟩

/-! ## Decimal digits (rules R143, R144) -/

theorem toNat_hundreds (p : Byte) : (hundreds p).toNat = p.toNat / 100 := BitVec.toNat_udiv

theorem toNat_tens (p : Byte) : (tens p).toNat = p.toNat / 10 % 10 := by
  rw [tens, BitVec.toNat_umod, BitVec.toNat_udiv]
  rfl

theorem toNat_ones (p : Byte) : (ones p).toNat = p.toNat % 10 := BitVec.toNat_umod

/-- Three bytes stored from an address upward, the addresses wrapping. -/
theorem Memory.read_writeBytes_three (m : Memory) (a b : Addr) (p q r : Byte) :
    (m.writeBytes a [p, q, r]).read b =
      if b = a then p else if b = a + 1#12 then q else if b = a + 2#12 then r else m.read b := by
  have htwo : a + 1#12 + 1#12 = a + 2#12 := by bv_omega
  have h01 : a ≠ a + 1#12 := by bv_omega
  have h02 : a ≠ a + 2#12 := by bv_omega
  have h12 : a + 1#12 ≠ a + 2#12 := by bv_omega
  simp only [Memory.writeBytes, Memory.read_write, htwo]
  by_cases h0 : b = a
  · simp only [h0, if_true, if_neg h01, if_neg h02]
  · by_cases h1 : b = a + 1#12
    · simp only [h1, if_true, if_neg h12, if_neg h01.symm]
    · simp only [if_neg h0, if_neg h1]

/-- Settles O15: the three stores hit three different addresses, even where they wrap. -/
theorem bcdStoreWritesThreeBytes : Obligations.BcdStoreWritesThreeBytes := by
  intro x s
  refine ⟨effect (.ldBcd x) s, rfl, fun a => ?_, effect_pcMoves (fun _ => rfl) s, effect_keepsAllBut (.ldBcd x) s⟩
  simp only [effect, transfer_mem, dataEffect, State.setMem_mem, bcdDigits, Memory.read_writeBytes_three,
    apply_ite BitVec.toNat, toNat_hundreds, toNat_tens, toNat_ones]

/-- Settles O16: the three bytes read back are the three digits of the byte. -/
theorem storedDigitsRecompose : Obligations.StoredDigitsRecompose := by
  intro x s
  obtain ⟨t, ht, hread, -, -⟩ := bcdStoreWritesThreeBytes x s
  have h10 : s.index + 1#12 ≠ s.index := by bv_omega
  have h20 : s.index + 2#12 ≠ s.index := by bv_omega
  have h21 : s.index + 2#12 ≠ s.index + 1#12 := by bv_omega
  have hhundreds := hread s.index
  have htens := hread (s.index + 1#12)
  have hones := hread (s.index + 2#12)
  rw [if_pos rfl] at hhundreds
  rw [if_neg h10, if_pos rfl] at htens
  rw [if_neg h20, if_neg h21, if_pos rfl] at hones
  have hbyte : (s.reg x).toNat < 256 := (s.reg x).isLt
  exact ⟨t, ht, by omega, by omega, by omega, by omega⟩

/-! ## The block copies (rules R145, R146) -/

/-- The block copies fault exactly when the block passes the end of memory. -/
theorem faultOf_stRegs (s : State) (x : Reg) :
    faultOf s (.stRegs x) = if s.index.toNat + x.val + 1 > 4096 then some .outOfBounds else none := rfl

theorem faultOf_ldRegs (s : State) (x : Reg) :
    faultOf s (.ldRegs x) = if s.index.toNat + x.val + 1 > 4096 then some .outOfBounds else none := rfl

theorem exec_stRegs_passes {s : State} {x : Reg} (h : s.index.toNat + x.val + 1 > 4096) :
    exec (.stRegs x) s = .next (s.raise .outOfBounds) :=
  exec_of_faultOf_some (by rw [faultOf_stRegs, if_pos h])

theorem exec_ldRegs_passes {s : State} {x : Reg} (h : s.index.toNat + x.val + 1 > 4096) :
    exec (.ldRegs x) s = .next (s.raise .outOfBounds) :=
  exec_of_faultOf_some (by rw [faultOf_ldRegs, if_pos h])

theorem exec_stRegs_fits {s : State} {x : Reg} (h : s.index.toNat + x.val + 1 ≤ 4096) :
    exec (.stRegs x) s = .next (effect (.stRegs x) s) :=
  exec_of_faultOf_none (by rw [faultOf_stRegs, if_neg (by omega)])

theorem exec_ldRegs_fits {s : State} {x : Reg} (h : s.index.toNat + x.val + 1 ≤ 4096) :
    exec (.ldRegs x) s = .next (effect (.ldRegs x) s) :=
  exec_of_faultOf_none (by rw [faultOf_ldRegs, if_neg (by omega)])

/-- After a block store each address at most x above I holds the register of its offset, and the others what they
held. -/
theorem read_effect_stRegs (s : State) (x : Reg) (a : Addr) :
    (effect (.stRegs x) s).mem.read a =
      if h : (a - s.index).toNat ≤ x.val then s.reg ⟨(a - s.index).toNat, by omega⟩ else s.mem.read a := by
  have hlen := s.length_regsUpTo x
  simp only [effect, transfer_mem, dataEffect, State.setIndex_mem, State.setMem_mem]
  rw [Memory.read_writeBytes _ _ _ _ (by omega)]
  simp only [hlen, Nat.lt_succ_iff, State.getElem_regsUpTo]

/-- After a block load the registers up to `Vx` hold the bytes from I upward, and the others what they held. -/
theorem reg_effect_ldRegs (s : State) (x r : Reg) :
    (effect (.ldRegs x) s).reg r = if r ≤ x then s.mem.read (s.index + BitVec.ofNat 12 r.val) else s.reg r := by
  simp only [effect, reg_transfer, dataEffect, State.reg_setIndex, State.reg_setRegs, Memory.getElem_readBytes,
    Memory.length_readBytes, copyCount, Nat.lt_succ_iff, Fin.le_def, dite_eq_ite]

/-- Settles O17: the bounds check decides between the fault and the whole store. -/
theorem blockStoreCopiesOrFaults : Obligations.BlockStoreCopiesOrFaults := by
  intro x s
  refine ⟨fun h => exec_stRegs_passes h, fun h => ⟨_, exec_stRegs_fits h, read_effect_stRegs s x, ?_,
    effect_pcMoves (fun _ => rfl) s, effect_keepsAllBut (.stRegs x) s⟩⟩
  rw [effect, index_transfer, dataEffect, State.index_setIndex]
  rfl

/-- Settles O18: the bounds check decides between the fault and the whole load. -/
theorem blockLoadCopiesOrFaults : Obligations.BlockLoadCopiesOrFaults := by
  intro x s
  refine ⟨fun h => exec_ldRegs_passes h, fun h => ⟨_, exec_ldRegs_fits h, reg_effect_ldRegs s x, ?_,
    effect_pcMoves (fun _ => rfl) s, effect_keepsAllBut (.ldRegs x) s⟩⟩
  rw [effect, index_transfer, dataEffect, State.index_setIndex]
  rfl

/-! ## The fetch and the load of a program -/

/-- A word of two bytes has the first as its high byte (20_memory.md rule R54). -/
theorem toNat_wordOfBytes (hi lo : Byte) : (wordOfBytes hi lo).toNat = hi.toNat * 256 + lo.toNat := by
  rw [wordOfBytes, BitVec.toNat_append, ← Nat.shiftLeft_add_eq_or_of_lt lo.isLt, Nat.shiftLeft_eq]

/-- Settles O43: the store puts V0 and V1 at the two addresses that the advanced program counter reads. -/
theorem storedCodeIsFetchedNext : Obligations.StoredCodeIsFetchedNext := by
  intro x s hx hpc hfits
  have hnext : (effect (.stRegs x) s).pc = s.index := by rw [(effect_pcMoves (fun _ => rfl) s).pc, hpc]
  have hfirst : (effect (.stRegs x) s).mem.read s.index = s.reg 0 := by
    rw [read_effect_stRegs]
    simp
  have hsecond : (effect (.stRegs x) s).mem.read (s.index + 1#12) = s.reg 1 := by
    have hoff : (s.index + 1#12 - s.index).toNat = 1 := by bv_omega
    rw [read_effect_stRegs, dif_pos (by rw [hoff]; exact hx)]
    congr 1
    exact Fin.ext hoff
  refine ⟨_, exec_stRegs_fits hfits, hnext, ?_⟩
  rw [State.fetch, hnext, Memory.readWord, toNat_wordOfBytes, hfirst, hsecond]

/-- Settles O44: the accepted copy stores the bytes from pc upward, and every other case leaves the state. -/
theorem loadCopiesOnlyInInitializing : Obligations.LoadCopiesOnlyInInitializing := by
  intro s bytes
  rcases s.load_cases bytes with ⟨hno, e⟩ | ⟨hyes, hp, e⟩ | ⟨hyes, hp, e⟩ <;> rw [e]
  · exact ⟨fun hf hm => absurd ⟨hf, hm⟩ hno, fun _ => rfl⟩
  · exact ⟨fun _ _ hfits => absurd hp (Nat.not_lt.mpr hfits), fun hno => by simp [hyes] at hno⟩
  · refine ⟨fun _ _ hfits => ⟨fun a => ?_, s.setMem_writeBytes_keepsAllBut s.pc bytes⟩,
      fun hno => by simp [hyes] at hno⟩
    rw [State.setMem_mem, Memory.read_writeBytes _ _ _ _ (by omega)]

end Sys2Proof.Machine
end

section
/-! PROOFS. The sprite engine, pixel by pixel. -/

namespace Sys2Proof.Machine

theorem faultOf_drw (s : State) (x y : Reg) (n : Nibble) :
    faultOf s (.drw x y n) = if s.index.toNat + n.toNat > 4096 then some .outOfBounds else none := rfl

theorem exec_drw_passes {s : State} {n : Nibble} (h : s.index.toNat + n.toNat > 4096) (x y : Reg) :
    exec (.drw x y n) s = .next (s.raise .outOfBounds) :=
  exec_of_faultOf_some (by rw [faultOf_drw, if_pos h])

theorem exec_drw_fits {s : State} {n : Nibble} (h : s.index.toNat + n.toNat ≤ 4096) (x y : Reg) :
    exec (.drw x y n) s = .next (effect (.drw x y n) s) :=
  exec_of_faultOf_none (by rw [faultOf_drw, if_neg (by omega)])

/-- Settles O40: the three slices of the instructions and the slice of a Load, each past the end of memory. -/
theorem outOfBoundsHasFourCauses : Obligations.OutOfBoundsHasFourCauses := by
  intro s
  refine ⟨fun x y n h => exec_drw_passes h x y, fun x h => ⟨exec_stRegs_passes h, exec_ldRegs_passes h⟩,
    fun bytes hf hm hp => ?_⟩
  rcases s.load_cases bytes with ⟨hno, -⟩ | ⟨-, -, e⟩ | ⟨-, hfits, -⟩
  · exact absurd ⟨hf, hm⟩ hno
  · exact e
  · exact absurd hp hfits

/-! ## One sprite row on one scan line (rule R167) -/

/-- How far right of the sprite's column a column lies, wrapping after column 63. -/
abbrev colsRight (px : Byte) (c : Fin 64) : Nat := (c.val + 256 - px.toNat) % 64

/-- How far below the sprite's row a row lies, wrapping after row 31. -/
theorem rowsBelow_startRow (py : Byte) (r : Fin 32) : rowsBelow (startRow py) r = (r.val + 256 - py.toNat) % 32 := by
  have hr := r.isLt
  have hpy : py.toNat < 256 := py.isLt
  simp only [rowsBelow, startRow, Fin.sub_def]
  omega

/-- Rotation right by the sprite's column brings to a column the bit that many columns further left, wrapping. -/
theorem rotateRight_getLsbD_col (w : Scanline) (px : Byte) (c : Fin 64) :
    (w.rotateRight (px.toNat % 64)).getLsbD (63 - c.val) = w.getLsbD (63 - colsRight px c) := by
  have hc := c.isLt
  have hpx : px.toNat < 256 := px.isLt
  rw [BitVec.getLsbD_rotateRight, Nat.mod_mod]
  by_cases hlow : 63 - c.val < 64 - px.toNat % 64
  · have hbit : px.toNat % 64 + (63 - c.val) = 63 - colsRight px c := by simp only [colsRight]; omega
    rw [decide_eq_true hlow, cond_true, hbit]
  · have hbit : 63 - c.val - (64 - px.toNat % 64) = 63 - colsRight px c := by simp only [colsRight]; omega
    rw [decide_eq_false hlow, cond_false, decide_eq_true (by omega), Bool.true_and, hbit]

/-- A column shows bit 7 - i of the sprite byte where it lies i < 8 columns right of the sprite's, and nothing else. -/
theorem rowMask_getLsbD_col (b px : Byte) (c : Fin 64) :
    (rowMask b px).getLsbD (63 - c.val) = (decide (colsRight px c < 8) && b.getLsbD (7 - colsRight px c)) := by
  rw [rowMask, rotateRight_getLsbD_col, BitVec.getLsbD_shiftLeft, BitVec.getLsbD_setWidth]
  generalize colsRight px c = i
  by_cases hi : i < 8
  · have hbit : 63 - i - 56 = 7 - i := by omega
    have hnotLow : ¬ 63 - i < 56 := by omega
    have hbounds : 63 - i < 64 ∧ 7 - i < 64 := by omega
    simp only [hi, hbit, hnotLow, hbounds.1, hbounds.2, decide_true, decide_false, Bool.not_false, Bool.true_and]
  · have hlow : 63 - i < 56 := by omega
    simp only [hi, hlow, decide_true, decide_false, Bool.not_true, Bool.and_false, Bool.false_and]

/-- A scan line is blank exactly when none of its columns is lit. -/
theorem scanline_ne_zero_iff (w : Scanline) : w ≠ 0#64 ↔ ∃ c : Fin 64, w.getLsbD (63 - c.val) = true := by
  constructor
  · intro h
    by_contra hdark
    refine h (BitVec.eq_of_getLsbD_eq fun i hi => ?_)
    have hcol : ¬ w.getLsbD (63 - (63 - i)) = true := fun e => hdark ⟨⟨63 - i, by omega⟩, e⟩
    rw [show 63 - (63 - i) = i by omega] at hcol
    simpa using hcol
  · rintro ⟨c, hc⟩ rfl
    simp at hc

/-- A sprite row leaves a mark exactly when its byte has a set bit. -/
theorem rowMask_ne_zero_iff (b px : Byte) : rowMask b px ≠ 0#64 ↔ b ≠ 0#8 := by
  rw [scanline_ne_zero_iff]
  constructor
  · rintro ⟨c, hc⟩ rfl
    simp [rowMask_getLsbD_col] at hc
  · intro hb
    have hbit : ∃ k < 8, b.getLsbD k = true := by
      by_contra hdark
      refine hb (BitVec.eq_of_getLsbD_eq fun k hk => ?_)
      have hk' : ¬ b.getLsbD k = true := fun e => hdark ⟨k, hk, e⟩
      simpa using hk'
    obtain ⟨k, hk, hset⟩ := hbit
    have hpx : px.toNat < 256 := px.isLt
    have hcol : ((px.toNat + (7 - k)) % 64 + 256 - px.toNat) % 64 = 7 - k := by omega
    refine ⟨⟨(px.toNat + (7 - k)) % 64, Nat.mod_lt _ (by decide)⟩, ?_⟩
    rw [rowMask_getLsbD_col, colsRight, hcol, show 7 - (7 - k) = k by omega, hset, Bool.and_true]
    exact decide_eq_true (by omega)

/-! ## The sprite as it lies on the screen (rules R165, R168) -/

/-- What a sprite of `n` rows at `a`, drawn at (px, py), puts on scan line `r`. -/
def spriteRow (m : Memory) (a : Addr) (n : Nat) (px py : Byte) (r : Fin 32) : Scanline :=
  if rowsBelow (startRow py) r < n then rowMask (m.read (a + BitVec.ofNat 12 (rowsBelow (startRow py) r))) px else 0#64

/-- The sprite on the screen, column by column, is the statement's. -/
theorem spriteRow_getLsbD_col (m : Memory) (a : Addr) (n : Nat) (px py : Byte) (c : Fin 64) (r : Fin 32) :
    (spriteRow m a n px py r).getLsbD (63 - c.val) = spritePixel m a n px py c r := by
  simp only [spriteRow, spritePixel, rowsBelow_startRow]
  split_ifs with hj
  · simp [rowMask_getLsbD_col, hj]
  · simp [hj]

/-- A draw XORs the sprite into every scan line, where it is not on most of them. -/
theorem drawSprite_row (fb : Vector Scanline 32) (m : Memory) (a : Addr) {n : Nat} (hn : n ≤ 32) (px py : Byte)
    (r : Fin 32) :
    (drawSprite fb px py (m.readBytes a n)).1[r.val] = fb[r.val] ^^^ spriteRow m a n px py r := by
  rw [drawSprite, drawRows_row _ _ _ _ _ (by simpa using hn)]
  simp only [Memory.length_readBytes, Memory.getElem_readBytes, spriteRow]
  split_ifs <;> simp

/-- A draw collides exactly when the sprite and some scan line share a lit pixel. -/
theorem drawSprite_collides (fb : Vector Scanline 32) (m : Memory) (a : Addr) {n : Nat} (hn : n ≤ 32) (px py : Byte) :
    (drawSprite fb px py (m.readBytes a n)).2 = true ↔ ∃ r : Fin 32, fb[r.val] &&& spriteRow m a n px py r ≠ 0#64 := by
  rw [drawSprite, drawRows_collides _ _ _ _ (by simpa using hn)]
  refine exists_congr fun r => ?_
  simp only [Memory.length_readBytes, Memory.getElem_readBytes, spriteRow]
  split_ifs with hj <;> simp [hj]

/-! ## The draw instruction (rule R169) -/

/-- The sprite that a draw of `n` rows puts on the screen. -/
def drawnRow (s : State) (x y : Reg) (n : Nibble) : Fin 32 → Scanline :=
  spriteRow s.mem s.index n.toNat (s.reg x) (s.reg y)

theorem effect_drw_row (s : State) (x y : Reg) (n : Nibble) (r : Fin 32) :
    (effect (.drw x y n) s).row r = s.row r ^^^ drawnRow s x y n r := by
  have hn := n.isLt
  exact drawSprite_row s.fb s.mem s.index (by omega) (s.reg x) (s.reg y) r

theorem effect_drw_reg (s : State) (x y : Reg) (n : Nibble) (q : Reg) :
    (effect (.drw x y n) s).reg q =
      if q = regVF then flagByte (drawSprite s.fb (s.reg x) (s.reg y) (s.mem.readBytes s.index n.toNat)).2
      else s.reg q := by
  simp only [effect, reg_transfer, dataEffect, State.reg_setFlag, State.reg_setFb]

/-- VF is the collision flag, whatever the coordinates were. -/
theorem effect_drw_regVF (s : State) (x y : Reg) (n : Nibble) :
    (effect (.drw x y n) s).reg regVF = if ∃ r, s.row r &&& drawnRow s x y n r ≠ 0#64 then 1#8 else 0#8 := by
  have hn := n.isLt
  have hcollides := drawSprite_collides s.fb s.mem s.index (n := n.toNat) (by omega) (s.reg x) (s.reg y)
  rw [effect_drw_reg, if_pos rfl, flagByte]
  exact if_congr hcollides rfl rfl

/-- Settles O26: the sprite is XORed into each scan line, and a scan line and the sprite share a lit pixel at some
column exactly when their conjunction is not blank. -/
theorem drawXorsEveryPixel : Obligations.DrawXorsEveryPixel := by
  intro x y n s hfits
  refine ⟨_, exec_drw_fits hfits x y, fun c r => ?_, ?_, fun r hr => ?_, effect_pcMoves (fun _ => rfl) s,
    effect_keepsAllBut (.drw x y n) s⟩
  · rw [State.pixel, effect_drw_row, BitVec.getLsbD_xor, drawnRow, spriteRow_getLsbD_col, State.pixel]
  · rw [effect_drw_regVF]
    refine if_congr ?_ rfl rfl
    rw [exists_comm]
    refine exists_congr fun r => ?_
    rw [scanline_ne_zero_iff]
    simp only [BitVec.getLsbD_and, Bool.and_eq_true, drawnRow, spriteRow_getLsbD_col, State.pixel]
  · rw [effect_drw_reg, if_neg hr]

/-! ## Drawing twice -/

/-- A draw whose coordinates are not VF draws the same sprite again. -/
theorem drawnRow_effect_drw {x y : Reg} (hx : x ≠ regVF) (hy : y ≠ regVF) (n : Nibble) (s : State) :
    drawnRow (effect (.drw x y n) s) x y n = drawnRow s x y n := by
  rw [drawnRow, effect_drw_reg, effect_drw_reg, if_neg hx, if_neg hy]
  rfl

/-- Where a scan line and the sprite shared no lit pixel, after the draw they share the sprite's. -/
theorem xor_and_self_of_and_eq_zero {w m : Scanline} (h : w &&& m = 0#64) : (w ^^^ m) &&& m = m := by
  refine BitVec.eq_of_getLsbD_eq fun i _ => ?_
  have hi : (w.getLsbD i && m.getLsbD i) = false := by rw [← BitVec.getLsbD_and, h, BitVec.getLsbD_zero]
  rw [BitVec.getLsbD_and, BitVec.getLsbD_xor]
  revert hi
  cases w.getLsbD i <;> cases m.getLsbD i <;> decide

/-- A sprite of at most 32 rows marks some scan line exactly when one of its bytes has a set bit. -/
theorem exists_spriteRow_ne_zero_iff (m : Memory) (a : Addr) {n : Nat} (hn : n ≤ 32) (px py : Byte) :
    (∃ r, spriteRow m a n px py r ≠ 0#64) ↔ ∃ j, j < n ∧ m.read (a + BitVec.ofNat 12 j) ≠ 0#8 := by
  constructor
  · rintro ⟨r, hr⟩
    rw [spriteRow] at hr
    split_ifs at hr with hj
    · exact ⟨_, hj, (rowMask_ne_zero_iff _ px).mp hr⟩
    · exact absurd rfl hr
  · rintro ⟨j, hj, hbyte⟩
    have hbelow : rowsBelow (startRow py) (startRow py + ⟨j, by omega⟩) = j := by simp [rowsBelow]
    refine ⟨startRow py + ⟨j, by omega⟩, ?_⟩
    rw [spriteRow, hbelow, if_pos hj]
    exact (rowMask_ne_zero_iff _ px).mpr hbyte

/-- Settles O27: the second draw XORs the same sprite back out, and collides wherever the first has put it. -/
theorem drawTwiceRestoresAndCollides : Obligations.DrawTwiceRestoresAndCollides := by
  intro x y n s hfits hx hy
  have hn := n.isLt
  have hsame := drawnRow_effect_drw hx hy n s
  refine ⟨_, _, exec_drw_fits hfits x y, exec_drw_fits (s := effect (.drw x y n) s) hfits x y, fun r => ?_,
    fun hmiss => ?_⟩
  · rw [effect_drw_row, effect_drw_row, hsame, BitVec.xor_assoc, BitVec.xor_self, BitVec.xor_zero]
  · have hdisjoint (r : Fin 32) : s.row r &&& drawnRow s x y n r = 0#64 := by
      by_contra hr
      rw [effect_drw_regVF, if_pos ⟨r, hr⟩] at hmiss
      exact absurd hmiss (by decide)
    have hshared (r : Fin 32) :
        (effect (.drw x y n) s).row r &&& drawnRow (effect (.drw x y n) s) x y n r = drawnRow s x y n r := by
      rw [effect_drw_row, hsame, xor_and_self_of_and_eq_zero (hdisjoint r)]
    calc (effect (.drw x y n) (effect (.drw x y n) s)).reg regVF = 1#8
      _ ↔ ∃ r, drawnRow s x y n r ≠ 0#64 := by
        rw [effect_drw_regVF]
        simp only [hshared]
        split_ifs with hmark <;> simp [hmark]
      _ ↔ _ := exists_spriteRow_ne_zero_iff s.mem s.index (by omega) (s.reg x) (s.reg y)

end Sys2Proof.Machine
end

section
/-! PROOFS. What a cycle and a step can do, said once, and that each answers a next state. -/

namespace Sys2Proof.Machine

/-! ## The cycle -/

/-- The state in which the fetched instruction runs: ticked, with ir and mode latched (R91, R92). -/
def State.started (s : State) : State := s.tick.beginInstr s.fetch

/-- What precedes the instruction touches the timers, ir and the mode. -/
theorem State.started_keepsAllBut (s : State) : KeepsAllBut [.delay, .sound, .ir, .mode] s s.started :=
  s.tick_keepsAllBut.trans (s.tick.beginInstr_keepsAllBut s.fetch)

theorem cycle_of_running {s : State} (hf : s.fault = none) (hm : s.mode = .initializing ∨ s.mode = .executing) :
    cycle s = execDecoded (decode s.fetch) s.started := by
  rcases hm with hm | hm <;> simp only [cycle, State.halted, hf, modeWork, State.tick_mode, hm] <;> rfl

theorem cycle_of_waiting {s : State} (hf : s.fault = none) (hm : s.mode = .waitingForKey) :
    cycle s = .next s.tick.waitCycle := by
  simp only [cycle, State.halted, hf, modeWork, State.tick_mode, hm]
  rfl

theorem cycle_of_paused {s : State} (hf : s.fault = none) (hm : s.mode = .paused) : cycle s = .next s.tick := by
  simp only [cycle, State.halted, hf, modeWork, State.tick_mode, hm]
  rfl

/-- All that the dispatch of a decoded word can have done. -/
theorem of_execDecoded_eq_next {d : Decoded} {s t : State} (h : execDecoded d s = .next t) :
    (∃ i, d = .instr i ∧ exec i s = .next t) ∨ (∃ w, d = .invalid w ∧ t = s.reportInvalid w) := by
  cases d with
  | instr i => exact .inl ⟨i, rfl, h⟩
  | invalid w =>
    cases h
    exact .inr ⟨w, rfl, rfl⟩

/-- All that a cycle can have done: nothing when halted, else the tick and the work of the mode (R90). -/
theorem of_cycle_eq_next {s t : State} (h : cycle s = .next t) :
    (s.fault ≠ none ∧ t = s) ∨
      (s.fault = none ∧ (s.mode = .initializing ∨ s.mode = .executing) ∧
        ((∃ i, decode s.fetch = .instr i ∧ exec i s.started = .next t) ∨
          (∃ w, decode s.fetch = .invalid w ∧ t = s.started.reportInvalid w))) ∨
      (s.fault = none ∧ s.mode = .waitingForKey ∧ t = s.tick.waitCycle) ∨
      (s.fault = none ∧ (s.mode = .paused ∨ s.mode = .loadingROM) ∧ t = s.tick) := by
  rcases cycle_cases s with ⟨hf, e⟩ | ⟨hf, hm, -⟩ | ⟨hf, hm, e⟩ | ⟨hf, hm, e⟩
  · rw [e] at h
    cases h
    exact .inl ⟨hf, rfl⟩
  · rw [cycle_of_running hf hm] at h
    exact .inr (.inl ⟨hf, hm, of_execDecoded_eq_next h⟩)
  · rw [e] at h
    cases h
    exact .inr (.inr (.inl ⟨hf, hm, rfl⟩))
  · rw [e] at h
    cases h
    exact .inr (.inr (.inr ⟨hf, hm, rfl⟩))

theorem exists_execDecoded_eq_next (d : Decoded) (s : State) : ∃ t, execDecoded d s = .next t := by
  cases d with
  | instr i => exact exists_exec_eq_next i s
  | invalid w => exact ⟨_, rfl⟩

theorem exists_cycle_eq_next (s : State) : ∃ t, cycle s = .next t := by
  rcases cycle_cases s with ⟨-, e⟩ | ⟨hf, hm, -⟩ | ⟨-, -, e⟩ | ⟨-, -, e⟩
  · exact ⟨_, e⟩
  · rw [cycle_of_running hf hm]
    exact exists_execDecoded_eq_next _ _
  · exact ⟨_, e⟩
  · exact ⟨_, e⟩

/-! ## The step -/

/-- A step takes the next event and performs it (log entry 1). -/
theorem step_eq (s : State) : step s = performEvent s.nextEvent s.takeEvent := rfl

theorem exists_performEvent_eq_next (e : HostEvent) (s : State) : ∃ t, performEvent e s = .next t := by
  cases e with
  | cycle => exact exists_cycle_eq_next s
  | _ => exact ⟨_, rfl⟩

/-- Settles O42: every event answers a next state, the cycle because every instruction does. -/
theorem everyStepAnswersNextState : Obligations.EveryStepAnswersNextState := fun s =>
  exists_performEvent_eq_next s.nextEvent s.takeEvent

/-- Settles O33: the oldest pending event is the head of the list, and with none the state is as it was. -/
theorem stepPerformsTheNextEvent : Obligations.StepPerformsTheNextEvent := by
  intro s
  refine ⟨fun e rest h => ?_, fun h => ?_, rfl, fun _ => rfl, rfl, rfl, rfl⟩
  · simp only [step_eq, State.nextEvent, State.takeEvent, h, List.headD_cons, List.tail_cons]
  · have htake : s.takeEvent = s := by
      cases s
      subst h
      rfl
    rw [step_eq, htake, State.nextEvent, h]
    rfl

/-- A step whose event is a Cycle is the cycle of the state with that event taken. -/
theorem step_of_cycle {s : State} (h : s.nextEvent = .cycle) : step s = cycle s.takeEvent := by
  rw [step_eq, h]
  rfl

/-- A word whose value is that of the two bytes at pc, the first the high one, is the word fetched (R54, R93). -/
theorem fetch_eq_of_toNat {s : State} {w : Word}
    (h : w.toNat = (s.mem.read s.pc).toNat * 256 + (s.mem.read (s.pc + 1#12)).toNat) : s.fetch = w :=
  BitVec.eq_of_toNat_eq (by rw [h, State.fetch, Memory.readWord, toNat_wordOfBytes])

/-- Settles O32: the cycle of a running core is the dispatch of the word fetched, from the started state. -/
theorem stepRunsTheDecodedInstruction : Obligations.StepRunsTheDecodedInstruction := by
  intro s w i he hf hm hw hi
  have hfetch : s.takeEvent.fetch = w := fetch_eq_of_toNat hw
  rw [step_of_cycle he, cycle_of_running (s := s.takeEvent) hf hm, State.started, hfetch, hi]
  rfl

/-- Settles O34: the dispatch of an Invalid word is the report and the advance, from the started state. -/
theorem invalidWordIsReportedAndSkipped : Obligations.InvalidWordIsReportedAndSkipped := by
  intro s w he hf hm hw hi
  have hfetch : s.takeEvent.fetch = w := fetch_eq_of_toNat hw
  have hstep : step s = .next (s.takeEvent.started.reportInvalid w) := by
    rw [step_of_cycle he, cycle_of_running (s := s.takeEvent) hf hm, hfetch, hi]
    rfl
  have hframe : KeepsAllBut ([.inbox] ++ [.delay, .sound, .ir, .mode] ++ [.invalid]) s
      (s.takeEvent.started.latchInvalid w) :=
    (s.takeEvent_keepsAllBut.trans s.takeEvent.started_keepsAllBut).trans (State.latchInvalid_keepsAllBut _ w)
  exact ⟨_, hstep, rfl, rfl, rfl, hfetch, rfl, rfl, rfl, rfl, SamePart.pcMoves_advance (hframe .stack (by decide)),
    hframe.advance.mono (by decide)⟩

/-! ## Timers and waiting cycles -/

/-- Settles O35: the cycle is the tick alone. -/
theorem pausedCycleOnlyTicks : Obligations.PausedCycleOnlyTicks := fun s hf hm =>
  ⟨s.tick, cycle_of_paused hf hm, toNat_countDown s.dt, toNat_countDown s.st, s.tick_keepsAllBut⟩

/-- Settles O31: after the tick the slot decides between the end of the wait and nothing. -/
theorem waitingCyclePollsTheSlot : Obligations.WaitingCyclePollsTheSlot := by
  intro s hf hm
  rw [cycle_of_waiting hf hm]
  rcases s.tick.waitCycle_cases with ⟨hk, e⟩ | ⟨k, hk, e⟩ <;> rw [State.tick_kbd] at hk <;> rw [e]
  · exact ⟨fun _ => rfl, fun k' hk' => by simp [hk] at hk'⟩
  · refine ⟨fun hnone => by simp [hk] at hnone, fun k' hk' => ?_⟩
    obtain rfl : k = k' := by simpa [hk] using hk'
    exact ⟨_, rfl, rfl, rfl, rfl, s.tick.reg_endWait k, rfl, rfl,
      (s.tick_keepsAllBut.trans (s.tick.endWait_keepsAllBut k)).mono (by decide)⟩

/-- Only LD DT, Vx writes the delay timer. -/
theorem exec_dt {i : Instr} {s t : State} (hi : ∀ x, i ≠ .ldDt x) (h : exec i s = .next t) : t.dt = s.dt := by
  refine exec_keepsAllBut h .delay ?_
  cases i with
  | ldDt x => exact absurd rfl (hi x)
  | _ => simp [partsWritten]

/-- Only LD ST, Vx writes the sound timer. -/
theorem exec_st {i : Instr} {s t : State} (hi : ∀ x, i ≠ .ldSt x) (h : exec i s = .next t) : t.st = s.st := by
  refine exec_keepsAllBut h .sound ?_
  cases i with
  | ldSt x => exact absurd rfl (hi x)
  | _ => simp [partsWritten]

theorem State.waitCycle_dt (s : State) : s.waitCycle.dt = s.dt := by
  rcases s.waitCycle_cases with ⟨-, e⟩ | ⟨k, -, e⟩
  · rw [e]
  · rw [e, State.endWait_dt]

theorem State.waitCycle_st (s : State) : s.waitCycle.st = s.st := by
  rcases s.waitCycle_cases with ⟨-, e⟩ | ⟨k, -, e⟩
  · rw [e]
  · rw [e, State.endWait_st]

/-- Settles O36: the tick comes first in every mode, and only the instruction that sets a timer writes it after that. -/
theorem timersTickInEveryMode : Obligations.TimersTickInEveryMode := by
  intro s t hf h
  rw [← toNat_countDown, ← toNat_countDown]
  rcases of_cycle_eq_next h with ⟨hhalted, -⟩ | ⟨-, hm, ⟨i, hi, hexec⟩ | ⟨w, -, rfl⟩⟩ | ⟨-, -, rfl⟩ | ⟨-, -, rfl⟩
  · exact absurd hf hhalted
  · constructor
    · intro hne
      rw [exec_dt (fun x e => hne x hm (by rw [← e]; exact hi)) hexec]
      rfl
    · intro hne
      rw [exec_st (fun x e => hne x hm (by rw [← e]; exact hi)) hexec]
      rfl
  · exact ⟨fun _ => rfl, fun _ => rfl⟩
  · exact ⟨fun _ => by rw [State.waitCycle_dt, State.tick_dt], fun _ => by rw [State.waitCycle_st, State.tick_st]⟩
  · exact ⟨fun _ => rfl, fun _ => rfl⟩

end Sys2Proof.Machine
end

section
/-! PROOFS. The mode, the sticky reports, and the halted, paused and ended core. -/

namespace Sys2Proof.Machine

/-! ## The mode (40_engine_cycle.md rule R103) -/

/-- After an instruction the mode is what it was, unless the instruction starts a wait. -/
theorem exec_mode {i : Instr} {s t : State} (h : exec i s = .next t) :
    t.mode = if ∃ x, i = .ldK x then .waitingForKey else s.mode := by
  by_cases hi : ∃ x, i = .ldK x
  · obtain ⟨x, rfl⟩ := hi
    have ht : t = effect (.ldK x) s := by
      rw [exec_of_faultOf_none rfl] at h
      cases h
      rfl
    rw [if_pos ⟨x, rfl⟩, ht]
    rfl
  · rw [if_neg hi]
    refine exec_keepsAllBut h .mode ?_
    cases i with
    | ldK x => exact absurd ⟨x, rfl⟩ hi
    | _ => simp [partsWritten]

/-- After a cycle the mode is that of the cycle's row of the table. -/
theorem cycle_mode {s t : State} (h : cycle s = .next t) :
    t.mode =
      if s.fault ≠ none then s.mode
      else if s.mode = .initializing ∨ s.mode = .executing then
        if ∃ x, decode s.fetch = .instr (.ldK x) then .waitingForKey else .executing
      else if s.mode = .waitingForKey ∧ s.kbd ≠ none then .executing
      else s.mode := by
  rcases of_cycle_eq_next h with ⟨hf, rfl⟩ | ⟨hf, hm, ⟨i, hi, hexec⟩ | ⟨w, hw, rfl⟩⟩ | ⟨hf, hm, rfl⟩ | ⟨hf, hm, rfl⟩
  · rw [if_pos hf]
  · rw [if_neg (not_not.mpr hf), if_pos hm, exec_mode hexec, hi]
    simp only [Decoded.instr.injEq]
    rfl
  · rw [if_neg (not_not.mpr hf), if_pos hm, hw]
    simp [State.reportInvalid, State.started]
  · rcases s.tick.waitCycle_cases with ⟨hk, e⟩ | ⟨k, hk, e⟩ <;> rw [State.tick_kbd] at hk <;> simp [hf, hm, hk, e]
  · rcases hm with hm | hm <;> simp [hf, hm]

/-- A Load leaves the mode it finds (R105). -/
theorem State.load_mode (s : State) (bs : List Byte) : (s.load bs).mode = s.mode := by
  rcases s.load_cases bs with ⟨-, e⟩ | ⟨-, -, e⟩ | ⟨-, -, e⟩
  · rw [e]
  · rw [e, State.raise_mode]
  · rw [e, State.setMem_mode]

/-- A mode is one that a Pause can interrupt, with the latch value that stands for it, or one of the other
two (R108). -/
theorem Mode.running_cases (m : Mode) :
    (m.running = none ∧ (m = .paused ∨ m = .loadingROM)) ∨
      ∃ r, m.running = some r ∧ r.toMode = m ∧ (m = .initializing ∨ m = .executing ∨ m = .waitingForKey) := by
  cases m with
  | initializing => exact .inr ⟨_, rfl, rfl, .inl rfl⟩
  | executing => exact .inr ⟨_, rfl, rfl, .inr (.inl rfl)⟩
  | waitingForKey => exact .inr ⟨_, rfl, rfl, .inr (.inr rfl)⟩
  | paused => exact .inl ⟨rfl, .inl rfl⟩
  | loadingROM => exact .inl ⟨rfl, .inr rfl⟩

/-- A Pause is one of two things: not accepted, or the entry into Paused from the mode that its latch names (R108). -/
theorem State.pause_cases (s : State) :
    ((s.fault ≠ none ∨ s.mode = .paused ∨ s.mode = .loadingROM) ∧ s.pause = s) ∨
      (s.fault = none ∧ (s.mode = .initializing ∨ s.mode = .executing ∨ s.mode = .waitingForKey) ∧
        ∃ r : ResumeMode, r.toMode = s.mode ∧ s.pause = s.enterPause r) := by
  by_cases hf : s.fault = none
  · rw [State.pause, if_pos hf]
    rcases s.mode.running_cases with ⟨hr, hm⟩ | ⟨r, hr, hmode, hm⟩ <;> rw [hr]
    · exact .inl ⟨.inr hm, rfl⟩
    · exact .inr ⟨hf, hm, r, hmode, rfl⟩
  · exact .inl ⟨.inl hf, by rw [State.pause, if_neg hf]⟩

/-- A Pause is refused exactly where it is not accepted: by a halted core, or in Paused or LoadingROM. -/
theorem State.pause_refused_iff (s : State) :
    (s.fault ≠ none ∨ s.mode = .paused ∨ s.mode = .loadingROM) ↔
      ¬ (s.fault = none ∧ (s.mode = .initializing ∨ s.mode = .executing ∨ s.mode = .waitingForKey)) := by
  cases s.mode <;> simp

theorem State.resume_of_paused {s : State} (h : s.mode = .paused) : s.resume = s.setMode s.resumeMode.toMode := if_pos h

theorem State.resume_of_not_paused {s : State} (h : s.mode ≠ .paused) : s.resume = s := if_neg h

/-- Settles O41: the cycle has its rows, Pause and Resume theirs, Reset its own, and the other events leave the mode. -/
theorem modeFollowsTheTransitionTable : Obligations.ModeFollowsTheTransitionTable := by
  intro s t h
  rw [step_eq] at h
  unfold tableMode
  cases he : s.nextEvent with rw [he] at h
  | cycle => exact cycle_mode (s := s.takeEvent) h
  | pause =>
    cases h
    rcases s.takeEvent.pause_cases with ⟨hno, e⟩ | ⟨hf, hm, r, -, e⟩
    · rw [e]
      exact (if_neg (s.pause_refused_iff.mp hno)).symm
    · rw [e]
      exact (if_pos ⟨hf, hm⟩).symm
  | resume =>
    cases h
    by_cases hm : s.mode = .paused
    · rw [State.resume_of_paused (s := s.takeEvent) hm, if_pos hm]
      rfl
    · rw [State.resume_of_not_paused (s := s.takeEvent) hm, if_neg hm]
      rfl
  | load bytes =>
    cases h
    exact s.takeEvent.load_mode bytes
  | pressKey _ | releaseKeys | readFramebuffer | readStatus | reset =>
    cases h
    rfl

/-! ## Reports (R36, R197) -/

/-- No instruction writes the Invalid report. -/
theorem exec_inv_eq {i : Instr} {s t : State} (h : exec i s = .next t) : t.inv = s.inv := by
  refine (exec_keepsAllBut h .invalid ?_).1
  cases i <;> simp [partsWritten]

/-- A cycle keeps a set fault latch and a set Invalid report. -/
theorem cycle_keepsReports {s t : State} (h : cycle s = .next t) :
    (s.fault ≠ none → t.fault = s.fault ∧ t.faultAddr = s.faultAddr) ∧ (s.inv = true → t.inv = true) := by
  rcases of_cycle_eq_next h with ⟨-, rfl⟩ | ⟨hf, -, ⟨i, -, hexec⟩ | ⟨w, -, rfl⟩⟩ | ⟨hf, -, rfl⟩ | ⟨hf, -, rfl⟩
  · exact ⟨fun _ => ⟨rfl, rfl⟩, id⟩
  · refine ⟨absurd hf, fun hinv => ?_⟩
    rw [exec_inv_eq hexec]
    exact hinv
  · exact ⟨absurd hf, fun _ => rfl⟩
  · refine ⟨absurd hf, fun hinv => ?_⟩
    rcases s.tick.waitCycle_cases with ⟨-, e⟩ | ⟨k, -, e⟩ <;> (rw [e]; exact hinv)
  · exact ⟨absurd hf, id⟩

/-- Settles O38: a cycle keeps the reports, a Load faults only where no fault is set, and no other event but Reset
touches them. -/
theorem reportsAreStickyUntilReset : Obligations.ReportsAreStickyUntilReset := by
  intro s t hreset h
  rw [step_eq] at h
  cases he : s.nextEvent with rw [he] at h
  | cycle => exact cycle_keepsReports (s := s.takeEvent) h
  | reset => exact absurd he hreset
  | load bytes =>
    cases h
    rcases s.takeEvent.load_cases bytes with ⟨-, e⟩ | ⟨⟨hf, -⟩, -, e⟩ | ⟨⟨hf, -⟩, -, e⟩ <;> rw [e]
    · exact ⟨fun _ => ⟨rfl, rfl⟩, id⟩
    · exact ⟨absurd hf, id⟩
    · exact ⟨absurd hf, id⟩
  | pause =>
    cases h
    rcases s.takeEvent.pause_cases with ⟨-, e⟩ | ⟨-, -, r, -, e⟩ <;> (rw [e]; exact ⟨fun _ => ⟨rfl, rfl⟩, id⟩)
  | resume =>
    cases h
    by_cases hm : s.mode = .paused
    · rw [State.resume_of_paused (s := s.takeEvent) hm]
      exact ⟨fun _ => ⟨rfl, rfl⟩, id⟩
    · rw [State.resume_of_not_paused (s := s.takeEvent) hm]
      exact ⟨fun _ => ⟨rfl, rfl⟩, id⟩
  | pressKey _ | releaseKeys | readFramebuffer | readStatus =>
    cases h
    exact ⟨fun _ => ⟨rfl, rfl⟩, id⟩

end Sys2Proof.Machine
end

section
/-! PROOFS. The halted core, the paused core and the ended run. -/

namespace Sys2Proof.Machine

/-! ## The halted core (R197) -/

theorem cycle_of_halted {s : State} (hf : s.fault ≠ none) : cycle s = .next s := by
  rcases cycle_cases s with ⟨-, e⟩ | ⟨h, -⟩ | ⟨h, -⟩ | ⟨h, -⟩
  · exact e
  all_goals exact absurd h hf

theorem State.load_of_halted {s : State} (hf : s.fault ≠ none) (bs : List Byte) : s.load bs = s :=
  if_neg fun h => hf h.1

theorem State.pause_of_halted {s : State} (hf : s.fault ≠ none) : s.pause = s := if_neg hf

/-- The invariant keeps a halted core out of Paused, so that no Resume reaches it. -/
theorem State.Inv.not_paused_of_halted {s : State} (h : s.Inv) (hf : s.fault ≠ none) : s.mode ≠ .paused := by
  rcases h.haltedMode hf with hm | hm <;> simp [hm]

/-- Settles O37: each event but Reset is refused by a halted core or touches the slot alone. -/
theorem haltedCoreIsFrozen : Obligations.HaltedCoreIsFrozen := by
  intro s hinv hf hreset
  rw [step_eq]
  have htake : KeepsAllBut [.keyboard, .inbox] s s.takeEvent := s.takeEvent_keepsAllBut.mono (by decide)
  have hslot (k : Option Nibble) : KeepsAllBut [.keyboard, .inbox] s (s.takeEvent.setKbd k) :=
    (s.takeEvent_keepsAllBut.trans (s.takeEvent.setKbd_keepsAllBut k)).mono (by decide)
  cases he : s.nextEvent with
  | cycle => exact ⟨_, cycle_of_halted (s := s.takeEvent) hf, htake⟩
  | load bytes => exact ⟨_, congrArg Host.Outcome.next (State.load_of_halted (s := s.takeEvent) hf bytes), htake⟩
  | pause => exact ⟨_, congrArg Host.Outcome.next (State.pause_of_halted (s := s.takeEvent) hf), htake⟩
  | resume =>
    have hm : s.takeEvent.mode ≠ .paused := hinv.not_paused_of_halted hf
    exact ⟨_, congrArg Host.Outcome.next (State.resume_of_not_paused hm), htake⟩
  | pressKey k => exact ⟨_, rfl, hslot _⟩
  | releaseKeys => exact ⟨_, rfl, hslot none⟩
  | readFramebuffer | readStatus => exact ⟨_, rfl, htake⟩
  | reset => exact absurd he hreset

/-! ## The paused core (R97, R108, R109) -/

/-- Any number of cycles in Paused only count down the timers. -/
theorem runCycles_of_paused (n : Nat) {s : State} (hf : s.fault = none) (hm : s.mode = .paused) :
    ∃ t, runCycles n s = .next t ∧ KeepsAllBut [.delay, .sound] s t ∧
      t.dt.toNat = s.dt.toNat - n ∧ t.st.toNat = s.st.toNat - n := by
  induction n generalizing s with
  | zero => exact ⟨s, rfl, KeepsAllBut.refl _ s, rfl, rfl⟩
  | succ n ih =>
    obtain ⟨t, hrun, hframe, hdt, hst⟩ := ih (s := s.tick) hf hm
    refine ⟨t, ?_, s.tick_keepsAllBut.trans_same hframe, ?_, ?_⟩
    · rw [runCycles, cycle_of_paused hf hm]
      exact hrun
    · rw [hdt, State.tick_dt, toNat_countDown]
      omega
    · rw [hst, State.tick_st, toNat_countDown]
      omega

/-- A part that may change and did not can leave the list. -/
theorem KeepsAllBut.of_samePart {p : Part} {c : List Part} {s t : State} (h : KeepsAllBut (p :: c) s t)
    (hp : SamePart s t p) : KeepsAllBut c s t := by
  intro q hq
  by_cases hqp : q = p
  · exact hqp ▸ hp
  · exact h q (by simp [hqp, hq])

/-- Settles O47: the latch carries the interrupted mode over the cycles, which only tick, and a request that is refused
leaves the state. -/
theorem pauseThenResumeOnlyTicks : Obligations.PauseThenResumeOnlyTicks := by
  refine ⟨fun n s hf hm => ?_, fun s hno => ?_, fun s hm => State.resume_of_not_paused hm⟩
  · rcases s.pause_cases with ⟨hno, -⟩ | ⟨-, -, r, hr, e⟩
    · exact absurd ⟨hf, hm⟩ (s.pause_refused_iff.mp hno)
    rw [e]
    obtain ⟨t, hrun, hframe, hdt, hst⟩ := runCycles_of_paused n (s := s.enterPause r) hf rfl
    have hmode : t.mode = .paused := hframe .mode (by decide)
    have hlatch : t.resumeMode = r := hframe .resume (by decide)
    have hresume : t.resume = t.setMode s.mode := by rw [State.resume_of_paused hmode, hlatch, hr]
    refine ⟨t, hrun, hmode, ?_, ?_, ?_, ?_, ?_⟩ <;> rw [hresume]
    · rfl
    · exact hlatch ▸ hr
    · exact hdt
    · exact hst
    · have hall := ((s.enterPause_keepsAllBut r).trans hframe).trans (t.setMode_keepsAllBut s.mode)
      exact (hall.mono (d := [.mode, .delay, .sound, .resume]) (by decide)).of_samePart rfl
  · rcases s.pause_cases with ⟨-, e⟩ | ⟨hf, hm, -⟩
    · exact e
    · exact absurd ⟨hf, hm⟩ (s.pause_refused_iff.mp hno)

/-! ## The ended run (R224) -/

/-- Settles O50: the one instruction left is the jump to itself, which writes pc with the value it holds. -/
theorem endedRunOnlyTicks : Obligations.EndedRunOnlyTicks := by
  rintro s ⟨⟨hf, hinv⟩, hm, hjump⟩
  have hexec : cycle s = .next s.started := by
    rw [cycle_of_running hf (.inr hm), State.fetch, hjump]
    exact congrArg _ s.started.setPc_pc
  have hmode : s.started.mode = s.mode := hm.symm
  refine ⟨_, hexec, ⟨⟨hf, hinv⟩, rfl, hjump⟩, ?_, rfl, rfl, rfl⟩
  exact (s.started_keepsAllBut.mono (d := [.mode, .delay, .sound, .ir]) (by decide)).of_samePart hmode

end Sys2Proof.Machine
end

section
/-! PROOFS. Reset, and the invariant. -/

namespace Sys2Proof.Machine

/-! ## Reset (R43, R220) -/

theorem State.restart_reg (s : State) (r : Reg) : s.restart.reg r = 0#8 := Vector.getElem_replicate ..

theorem State.restart_row (s : State) (r : Fin 32) : s.restart.row r = 0#64 := Vector.getElem_replicate ..

theorem State.restart_entry (s : State) {k : Fin 16} (hk : k ≠ 0) : s.restart.entry k = 0#12 := by
  have hval : ¬ 0 = k.val := fun e => hk (Fin.ext e.symm)
  change ((Vector.replicate 16 0#12).set 0 Config.entry)[k.val] = 0#12
  rw [Vector.getElem_set, if_neg hval, Vector.getElem_replicate]

/-- Settles O49: each piece of the state is the value that the table of R43 gives it. -/
theorem resetLeavesTheTabulatedValues : Obligations.ResetLeavesTheTabulatedValues := fun s =>
  ⟨s.restart, rfl, s.restart_reg, rfl, rfl, rfl, fun _ => s.restart_entry, rfl, rfl, rfl, rfl, rfl, rfl, rfl, rfl, rfl,
    rfl, rfl, rfl, rfl, fun a => Memory.read_of_cells_nil rfl a, s.restart_row⟩

/-! ## The invariant -/

theorem State.resetWith_inv (font : Vector Byte 80) : (State.resetWith font).Inv where
  memCanonical := State.resetWith_mem_wf font
  indexIsAddress := by simp [State.resetWith]
  notLoading := by simp [State.resetWith]
  haltedMode h := absurd rfl h

/-- Settles O51: memory lists no cell, I is zero, and the core is neither loading nor halted. -/
theorem invariantHoldsAtReset : Obligations.InvariantHoldsAtReset :=
  ⟨State.resetWith_inv Config.defaultFont, State.resetWith_inv⟩

/-- The invariant speaks of memory, the index register, the mode and the fault latch only. -/
theorem State.Inv.of_eq {s t : State} (h : s.Inv) (hmem : t.mem = s.mem) (hi : t.i = s.i) (hmode : t.mode = s.mode)
    (hfault : t.fault = s.fault) : t.Inv := by
  obtain ⟨hwf, hindex, hload, hhalt⟩ := h
  exact ⟨by rwa [hmem], by rwa [hi], by rwa [hmode], by rwa [hmode, hfault]⟩

/-- A core that is not halted may go to any mode but LoadingROM. -/
theorem State.Inv.setMode {s : State} (h : s.Inv) (hf : s.fault = none) {m : Mode} (hm : m ≠ .loadingROM) :
    (s.setMode m).Inv := ⟨h.memCanonical, h.indexIsAddress, hm, fun hne => absurd hf hne⟩

/-- A fault raised in a mode that a halted core may be in. -/
theorem State.Inv.raise {s : State} (h : s.Inv) (hm : s.mode = .initializing ∨ s.mode = .executing) (f : FatalFault) :
    (s.raise f).Inv := ⟨h.memCanonical, h.indexIsAddress, h.notLoading, fun _ => hm⟩

/-- Memory replaced by memory in canonical form. -/
theorem State.Inv.setMem {s : State} (h : s.Inv) {m : Memory} (hm : m.wf = true) : (s.setMem m).Inv :=
  ⟨hm, h.indexIsAddress, h.notLoading, h.haltedMode⟩

/-- The index register holds an Address after every write (R24). -/
theorem State.Inv.setIndex {s : State} (h : s.Inv) (a : Addr) : (s.setIndex a).Inv := by
  refine ⟨h.memCanonical, ?_, h.notLoading, h.haltedMode⟩
  have ha : a.toNat < 4096 := a.isLt
  rw [State.setIndex_i, BitVec.toNat_setWidth]
  omega

theorem State.Inv.startWait {s : State} (h : s.Inv) (hf : s.fault = none) (x : Reg) : (s.startWait x).Inv :=
  ⟨h.memCanonical, h.indexIsAddress, by simp, fun hne => absurd hf hne⟩

theorem State.Inv.endWait {s : State} (h : s.Inv) (hf : s.fault = none) (k : Nibble) : (s.endWait k).Inv :=
  ⟨h.memCanonical, h.indexIsAddress, by simp, fun hne => absurd hf hne⟩

theorem State.Inv.enterPause {s : State} (h : s.Inv) (hf : s.fault = none) (r : ResumeMode) : (s.enterPause r).Inv :=
  ⟨h.memCanonical, h.indexIsAddress, by simp, fun hne => absurd hf hne⟩

/-- The data effect of an instruction keeps the invariant: the stores keep the canonical form and every write of the
index register is an Address. -/
theorem State.Inv.dataEffect {s : State} (h : s.Inv) (hf : s.fault = none) (i : Instr) : (dataEffect s i).Inv := by
  cases i with
  | ldI _ | addI _ | ldF _ => exact h.setIndex _
  | ldBcd _ => exact h.setMem (Memory.writeBytes_wf h.memCanonical _ _)
  | stRegs _ => exact (h.setMem (Memory.writeBytes_wf h.memCanonical _ _)).setIndex _
  | ldRegs _ => exact (State.Inv.of_eq (t := s.setRegs _) h rfl rfl rfl rfl).setIndex _
  | ldK x => exact h.startWait hf x
  | sub x y =>
    have hdiff : (s.setReg x (s.reg x - s.reg y)).Inv := h.of_eq rfl rfl rfl rfl
    exact hdiff.of_eq (State.setSubFlag_mem ..) (State.setSubFlag_i ..) (State.setSubFlag_mode ..)
      (State.setSubFlag_fault ..)
  | _ => exact h.of_eq rfl rfl rfl rfl

/-- An instruction of a running core keeps the invariant. -/
theorem State.Inv.exec {s t : State} {i : Instr} (h : s.Inv) (hf : s.fault = none) (hm : s.mode = .executing)
    (hexec : exec i s = .next t) : t.Inv := by
  rcases of_exec_eq_next hexec with ⟨f, -, rfl⟩ | ⟨-, rfl⟩
  · exact h.raise (.inr hm) f
  · obtain ⟨stack, sp, e⟩ := transfer_eq (Machine.dataEffect s i) i
    rw [effect, e]
    exact (h.dataEffect hf i).of_eq rfl rfl rfl rfl

theorem State.Inv.started {s : State} (h : s.Inv) (hf : s.fault = none) : s.started.Inv :=
  ⟨h.memCanonical, h.indexIsAddress, by simp [State.started], fun hne => absurd hf hne⟩

/-- A cycle keeps the invariant. -/
theorem State.Inv.cycle {s t : State} (h : s.Inv) (hcycle : cycle s = .next t) : t.Inv := by
  have htick : s.tick.Inv := h.of_eq rfl rfl rfl rfl
  rcases of_cycle_eq_next hcycle with ⟨-, rfl⟩ | ⟨hf, -, ⟨i, -, hexec⟩ | ⟨w, -, rfl⟩⟩ | ⟨hf, -, rfl⟩ | ⟨-, -, rfl⟩
  · exact h
  · exact (h.started hf).exec hf rfl hexec
  · exact (h.started hf).of_eq rfl rfl rfl rfl
  · rcases s.tick.waitCycle_cases with ⟨-, e⟩ | ⟨k, -, e⟩ <;> rw [e]
    · exact htick
    · exact htick.endWait hf k
  · exact htick

theorem State.Inv.load {s : State} (h : s.Inv) (bs : List Byte) : (s.load bs).Inv := by
  rcases s.load_cases bs with ⟨-, e⟩ | ⟨⟨-, hm⟩, -, e⟩ | ⟨-, -, e⟩ <;> rw [e]
  · exact h
  · exact h.raise (.inl hm) .outOfBounds
  · exact h.setMem (Memory.writeBytes_wf h.memCanonical s.pc bs)

theorem State.Inv.pause {s : State} (h : s.Inv) : s.pause.Inv := by
  rcases s.pause_cases with ⟨-, e⟩ | ⟨hf, -, r, -, e⟩ <;> rw [e]
  · exact h
  · exact h.enterPause hf r

/-- A Resume is accepted in Paused only, where no core is halted. -/
theorem State.Inv.resume {s : State} (h : s.Inv) : s.resume.Inv := by
  by_cases hm : s.mode = .paused
  · have hf : s.fault = none := by
      by_contra hne
      exact h.not_paused_of_halted hne hm
    have hlatch : s.resumeMode.toMode ≠ .loadingROM := by cases s.resumeMode <;> simp [ResumeMode.toMode]
    rw [State.resume_of_paused hm]
    exact h.setMode hf hlatch
  · rwa [State.resume_of_not_paused hm]

/-- Every event keeps the invariant. -/
theorem State.Inv.performEvent {s t : State} {e : HostEvent} (h : s.Inv) (he : performEvent e s = .next t) : t.Inv := by
  cases e with
  | cycle => exact h.cycle he
  | load bytes =>
    cases he
    exact h.load bytes
  | pause =>
    cases he
    exact h.pause
  | resume =>
    cases he
    exact h.resume
  | pressKey _ | releaseKeys | readFramebuffer | readStatus =>
    cases he
    exact h.of_eq rfl rfl rfl rfl
  | reset =>
    cases he
    exact (State.resetWith_inv s.mem.font).of_eq rfl rfl rfl rfl

/-- Settles O52: taking the event from the list touches nothing the invariant speaks of, and each event keeps it. -/
theorem stepKeepsTheInvariant : Obligations.StepKeepsTheInvariant := fun s _ h hstep =>
  State.Inv.performEvent (s := s.takeEvent) (h.of_eq rfl rfl rfl rfl) hstep

end Sys2Proof.Machine
end
